-- ==== Sys2Proof/Word.lean ====
section
/-! DEFINITION. The plain words of the T416: characters, network times, station numbers and local-oscillator instants. -/

namespace Sys2Proof

/-- One 8-bit character of the line or of the local port (Chapter 8). -/
abbrev Byte := BitVec 8

/-- A network time: a count of microseconds modulo 2^48 (R79). -/
abbrev NetTime := BitVec 48

/-- A strapped station number, 0 to 31 (R154). -/
abbrev Station := Fin 32

/-- An instant of the local oscillator, counted in half microseconds, the bit time of the fastest line rate (R113). -/
abbrev Instant := Nat

end Sys2Proof
end

