-- ==== Sys2Proof/Syntax.lean ====
section
/-! DEFINITION. The values that frames and local-port commands carry, and Instr: one constructor for each row of spec/opcode_table.json. -/

namespace Sys2Proof

/-- The level of an output or of a capture input. -/
inductive Level where
  | low
  | high
deriving DecidableEq, Repr

/-- The mode field of a program (R3). `reserved` is mode code 3, "no mode" (section 8.2): an item that holds it is invalid (R135). -/
inductive Mode where
  | hold
  | pulse
  | train
  | reserved
deriving DecidableEq, Repr

/-- A program: a mode and six fields (R3). -/
structure Program where
  mode : Mode
  start : BitVec 32
  period : BitVec 24
  width : BitVec 24
  count : BitVec 16
  active : Level
  rest : Level
deriving DecidableEq, Repr

/-- When an item takes effect (Chapter 1). -/
inductive LoadCond where
  | atEpoch
  | atBoundary
deriving DecidableEq, Repr

/-- An item as an item record holds it: the channel field has 7 bits, so it can name 0 to 127 (R135). -/
structure Item where
  load : LoadCond
  channel : BitVec 7
  program : Program
deriving DecidableEq, Repr

/-- A set id: the pair of proposer station and sequence number. -/
structure SetId where
  proposer : Station
  seq : BitVec 8
deriving DecidableEq, Repr

/-- The lock state (R78). -/
inductive LockState where
  | unlocked
  | acquiring
  | locked
  | holdover
deriving DecidableEq, Repr

/-- Why a vote is refused (R32). -/
inductive RefuseReason where
  | unknownSet
  | noRoom
  | badItem
  | incomplete
  | notLocked
  | late
  | far
  | conflict
deriving DecidableEq, Repr

/-- The verdict of a vote (R32). -/
inductive Verdict where
  | ready
  | refused (reason : RefuseReason)
deriving DecidableEq, Repr

/-- Why a proposal aborts (R55). -/
inductive AbortReason where
  | refused
  | noReply
  | late
  | withdrawn
  | lockLost
  | targetAbsent
  | selfRefused
deriving DecidableEq, Repr

/-- The outcome that a DECISION carries (R75). -/
inductive DecisionOutcome where
  | committed
  | aborted
  | unknown
deriving DecidableEq, Repr

/-- The ten frame kinds (section 8.2). -/
inductive FrameKind where
  | sync
  | call
  | commit
  | abort
  | reply
  | decision
  | stage
  | inquire
  | missed
  | presence
deriving DecidableEq, Repr

/-- One entry of a CALL's target list: a station and its item count. -/
structure CallEntry where
  station : Station
  count : Byte
deriving DecidableEq, Repr

/-- The body of a frame, by kind (section 8.2). -/
inductive Body where
  | sync (time : NetTime)
  | call (set : SetId) (epoch : NetTime) (targets : List CallEntry)
  | commit (set : SetId)
  | abort (set : SetId) (reason : AbortReason)
  | reply (set : SetId) (verdict : Verdict) (slots : Byte)
  | decision (set : SetId) (outcome : DecisionOutcome)
  | stage (set : SetId) (items : List Item)
  | inquire (set : SetId)
  | missed (set : SetId)
  | presence (lock : LockState) (records : Byte) (slots : Byte) (join : Bool)
deriving DecidableEq, Repr

/-- A frame: source, destination (`none` is the broadcast value 255) and body (section 8.1). -/
structure Frame where
  src : Station
  dest : Option Station
  body : Body
deriving DecidableEq, Repr

/-- The line rate read from LR1 and LR0 (R154). -/
inductive LineRate where
  | k250
  | k500
  | m1
  | m2
deriving DecidableEq, Repr

/-- The levels on the strap pins LR1, LR0 and AUTO (R154). -/
structure ModePins where
  lr1 : Level
  lr0 : Level
  auto : Level
deriving DecidableEq, Repr

/-- The two ends of a hard reset: it begins with power-on or the assertion of RESET, and the straps are sampled at its end (R155). -/
inductive ResetEdge where
  | asserted
  | released
deriving DecidableEq, Repr

/-- Why a received frame is discarded and counted as a CRC error (R125). -/
inductive CrcCause where
  | framing
  | cutShort
  | mismatch
deriving DecidableEq, Repr

/-- The commands and events of the T416, one constructor for each row of spec/opcode_table.json.
A local-port command carries the argument characters that were shifted in after its code (R139, R167).
A received frame carries the fields of its header and body; its kind's destination is 255 where no `dest` is given. -/
inductive Instr where
  | hardReset (edge : ResetEdge) (address : Vector Level 5) (mode : ModePins)
  | nop (args : List Byte)
  | unknownCommand (code : Byte) (args : List Byte)
  | transactionWithoutCommand
  | configureChannel (args : List Byte)
  | configureCapture (args : List Byte)
  | configureTrim (args : List Byte)
  | configureNotices (args : List Byte)
  | start (args : List Byte)
  | restart (args : List Byte)
  | openSet (args : List Byte)
  | addItem (args : List Byte)
  | submit (args : List Byte)
  | withdraw (args : List Byte)
  | readOutcome (args : List Byte)
  | readCapture (args : List Byte)
  | readNotice (args : List Byte)
  | readTime (args : List Byte)
  | readMember (args : List Byte)
  | readChannel (args : List Byte)
  | readSet (args : List Byte)
  | readStatus (args : List Byte)
  | frameStartEdge
  | gapEnd
  | breakDetected
  | breakEnd
  | crcError (cause : CrcCause)
  | unknownKind
  | malformedFrame
  | ownNumberFrame (kind : FrameKind)
  | sync (src : Station) (time : NetTime)
  | stage (src dest : Station) (set : SetId) (items : List Item)
  | call (src : Station) (set : SetId) (epoch : NetTime) (targets : List CallEntry)
  | commit (src : Station) (set : SetId)
  | abort (src : Station) (set : SetId) (reason : AbortReason)
  | decision (src dest : Station) (set : SetId) (outcome : DecisionOutcome)
  | reply (src dest : Station) (set : SetId) (verdict : Verdict) (slots : Byte)
  | inquire (src dest : Station) (set : SetId)
  | missed (src dest : Station) (set : SetId)
  | presence (src : Station) (lock : LockState) (records slots : Byte) (join : Bool)
  | attemptStart
  | arbitrationLoss (bit : Fin 8)
  | bitError
  | muteEnd
  | frameSent
  | replySlotStart
  | reservationEnd
  | windowEnd
  | supervisionExpiry
  | selfSource
  | syncTimerExpiry
  | slewPiece
  | staleTimeout (pos : Fin 4)
  | decisionTimeout (pos : Fin 4)
  | inquiryTimer (pos : Fin 4)
  | epochApply (pos : Fin 4)
  | epochExpiry (pos : Fin 4)
  | selfRecordEpoch (pos : Fin 4)
  | proposerEpoch
  | swapComplete (channel : Fin 16)
  | membershipIntervalEnd
  | presenceCheck
  | captureEdge (input : Fin 8) (level : Level)
  | frameEnd (cutShort : Bool)
  | sselAsserted
deriving DecidableEq, Repr

end Sys2Proof
end

