-- ==== Sys2Proof/WellFormed.lean ====
section
/-! DEFINITION. Which frames and commands have the form of Chapter 8 (R137, R169). -/

namespace Sys2Proof

/-- A set id's sequence is 1 to 255 (R134, R137). -/
def SetId.formed (set : SetId) : Bool := set.seq != 0

/-- The conditions of form on a CALL's target list (R137): 1 to 8 entries, no station twice, none naming the source,
each count 1 to 16. -/
def callListFormed (src : Station) (targets : List CallEntry) : Bool :=
  decide (1 ≤ targets.length) && decide (targets.length ≤ 8) && decide ((targets.map (·.station)).Nodup)
    && targets.all (fun e => e.station != src && decide (1 ≤ e.count.toNat) && decide (e.count.toNat ≤ 16))

/-- The conditions of form on a frame body from station `src` (R137). Those that the types of the fields already say
(a destination of the right sort, a code within its table) have no clause here. -/
def Body.formed (src : Station) : Body → Bool
  | .sync _ => true
  | .call set _ targets => set.formed && callListFormed src targets
  | .commit set => set.formed
  | .abort set _ => set.formed
  | .reply set _ slots => set.formed && decide (slots.toNat ≤ 32)
  | .decision set _ => set.formed
  | .stage set items => set.formed && decide (1 ≤ items.length) && decide (items.length ≤ 4)
  | .inquire set => set.formed
  | .missed set => set.formed
  | .presence _ records slots _ => decide (records.toNat ≤ 4) && decide (slots.toNat ≤ 32)

/-- The body that a received frame carries, for the ten rows that are valid frames. -/
def Instr.body? : Instr → Option (Station × Body)
  | .sync src time => some (src, .sync time)
  | .stage src _ set items => some (src, .stage set items)
  | .call src set epoch targets => some (src, .call set epoch targets)
  | .commit src set => some (src, .commit set)
  | .abort src set reason => some (src, .abort set reason)
  | .decision src _ set outcome => some (src, .decision set outcome)
  | .reply src _ set verdict slots => some (src, .reply set verdict slots)
  | .inquire src _ set => some (src, .inquire set)
  | .missed src _ set => some (src, .missed set)
  | .presence src lock records slots join => some (src, .presence lock records slots join)
  | _ => none

/-- The well-formed commands: a frame that R137 accepts, an unknown command whose code is 19 to 255 (R169). -/
def Instr.wellFormed (i : Instr) : Bool :=
  match i.body? with
  | some (src, body) => body.formed src
  | none =>
    match i with
    | .unknownCommand code _ => decide (19 ≤ code.toNat)
    | _ => true

end Sys2Proof
end

