-- ==== Sys2Proof/Decode.lean ====
section
/-! DEFINITION. The layouts of Chapter 8: from characters to commands (frames of the line, transactions of the local port), and the encoder of both. -/

namespace Sys2Proof

/-! ### Whole numbers in characters (R134) -/

/-- The low `n` characters of `v`, most significant first. -/
def beBytes : Nat → Nat → List Byte
  | 0, _ => []
  | n + 1, v => BitVec.ofNat 8 (v / 256 ^ n) :: beBytes n v

/-- The whole number that characters hold, most significant first. -/
def ofBytes (bs : List Byte) : Nat := bs.foldl (fun acc b => acc * 256 + b.toNat) 0

/-- The number held by `n` characters that begin at position `off`. -/
def fieldAt (bs : List Byte) (off n : Nat) : Nat := ofBytes ((bs.drop off).take n)

/-- The character at position `k`, 0 beyond the end. -/
def charAt (bs : List Byte) (k : Nat) : Byte := bs.getD k 0

/-- The bits of a character, most significant first (R113, R133). -/
def byteBits (b : Byte) : List Bool :=
  [b.getLsbD 7, b.getLsbD 6, b.getLsbD 5, b.getLsbD 4, b.getLsbD 3, b.getLsbD 2, b.getLsbD 1, b.getLsbD 0]

/-- The number that eight bits hold, most significant first. -/
def byteOfBits (bits : List Bool) : Byte := BitVec.ofNat 8 (bits.foldl (fun acc b => acc * 2 + b.toNat) 0)

/-! ### Codes of named values (sections 8.2 and R141) -/

/-- LOW 0, HIGH 1 (R134). -/
def Level.code : Level → Nat
  | .low => 0
  | .high => 1

/-- Mode codes (item record table). -/
def Mode.code : Mode → Nat
  | .hold => 0
  | .pulse => 1
  | .train => 2
  | .reserved => 3

/-- The mode of a two-bit code. DESIGN CHOICE (log 28). -/
def modeOf : Nat → Mode
  | 0 => .hold
  | 1 => .pulse
  | 2 => .train
  | _ => .reserved

/-- Lock state codes. -/
def LockState.code : LockState → Nat
  | .unlocked => 0
  | .acquiring => 1
  | .locked => 2
  | .holdover => 3

/-- The lock state of a code, 0 to 3. -/
def lockStateOf? : Nat → Option LockState
  | 0 => some .unlocked
  | 1 => some .acquiring
  | 2 => some .locked
  | 3 => some .holdover
  | _ => none

/-- Refusal reason codes. -/
def RefuseReason.code : RefuseReason → Nat
  | .unknownSet => 1
  | .noRoom => 2
  | .badItem => 3
  | .incomplete => 4
  | .notLocked => 5
  | .late => 6
  | .far => 7
  | .conflict => 8

/-- REPLY verdict codes. -/
def Verdict.code : Verdict → Nat
  | .ready => 0
  | .refused reason => reason.code

/-- The verdict of a code, 0 to 8. -/
def verdictOf? : Nat → Option Verdict
  | 0 => some .ready
  | 1 => some (.refused .unknownSet)
  | 2 => some (.refused .noRoom)
  | 3 => some (.refused .badItem)
  | 4 => some (.refused .incomplete)
  | 5 => some (.refused .notLocked)
  | 6 => some (.refused .late)
  | 7 => some (.refused .far)
  | 8 => some (.refused .conflict)
  | _ => none

/-- Abort reason codes. -/
def AbortReason.code : AbortReason → Nat
  | .refused => 1
  | .noReply => 2
  | .late => 3
  | .withdrawn => 4
  | .lockLost => 5
  | .targetAbsent => 6
  | .selfRefused => 7

/-- The abort reason of a code, 1 to 7. -/
def abortReasonOf? : Nat → Option AbortReason
  | 1 => some .refused
  | 2 => some .noReply
  | 3 => some .late
  | 4 => some .withdrawn
  | 5 => some .lockLost
  | 6 => some .targetAbsent
  | 7 => some .selfRefused
  | _ => none

/-- DECISION outcome codes. -/
def DecisionOutcome.code : DecisionOutcome → Nat
  | .committed => 1
  | .aborted => 2
  | .unknown => 3

/-- The outcome of a code, 1 to 3. -/
def outcomeOf? : Nat → Option DecisionOutcome
  | 1 => some .committed
  | 2 => some .aborted
  | 3 => some .unknown
  | _ => none

/-- Line rate codes (R154). -/
def LineRate.code : LineRate → Nat
  | .k250 => 0
  | .k500 => 1
  | .m1 => 2
  | .m2 => 3

/-- Frame kind codes (section 8.2). -/
def FrameKind.code : FrameKind → Nat
  | .sync => 0
  | .call => 1
  | .commit => 2
  | .abort => 3
  | .reply => 4
  | .decision => 5
  | .stage => 6
  | .inquire => 7
  | .missed => 8
  | .presence => 9

/-- The kind of a code, 0 to 9. -/
def frameKindOf? : Nat → Option FrameKind
  | 0 => some .sync
  | 1 => some .call
  | 2 => some .commit
  | 3 => some .abort
  | 4 => some .reply
  | 5 => some .decision
  | 6 => some .stage
  | 7 => some .inquire
  | 8 => some .missed
  | 9 => some .presence
  | _ => none

/-- The class of a frame kind: 0 SYNC, 1 control, 2 data, 3 PRESENCE (section 8.2). -/
def FrameKind.frameClass : FrameKind → Nat
  | .sync => 0
  | .call => 1
  | .commit => 1
  | .abort => 1
  | .reply => 1
  | .decision => 1
  | .stage => 2
  | .inquire => 2
  | .missed => 2
  | .presence => 3

/-- Whether frames of the kind are sent to the broadcast destination 255 (R132). -/
def FrameKind.broadcast : FrameKind → Bool
  | .sync => true
  | .call => true
  | .commit => true
  | .abort => true
  | .reply => false
  | .decision => false
  | .stage => false
  | .inquire => false
  | .missed => false
  | .presence => true

/-- The kind of a body. -/
def Body.kind : Body → FrameKind
  | .sync _ => .sync
  | .call _ _ _ => .call
  | .commit _ => .commit
  | .abort _ _ => .abort
  | .reply _ _ _ => .reply
  | .decision _ _ => .decision
  | .stage _ _ => .stage
  | .inquire _ => .inquire
  | .missed _ => .missed
  | .presence _ _ _ _ => .presence

/-- The arbitration value of a frame: class times 32, plus source station (R132). -/
def Frame.arbitration (f : Frame) : Nat := f.body.kind.frameClass * 32 + f.src.val

/-! ### Items, programs and set ids (R134, R135) -/

/-- The thirteen characters of a program record. -/
def programBytes (p : Program) : List Byte :=
  BitVec.ofNat 8 (p.mode.code * 64 + p.active.code * 32 + p.rest.code * 16)
    :: (beBytes 4 p.start.toNat ++ beBytes 3 p.period.toNat ++ beBytes 3 p.width.toNat ++ beBytes 2 p.count.toNat)

/-- The fourteen characters of an item record. -/
def itemBytes (it : Item) : List Byte :=
  BitVec.ofNat 8 ((if it.load = .atBoundary then 128 else 0) + it.channel.toNat) :: programBytes it.program

/-- The level that a bit names. -/
def levelOfBit (b : Bool) : Level := if b then .high else .low

/-- The program of the thirteen characters that begin at `off`; bits 3 to 0 of the first are not examined (R135). -/
def programAt (bs : List Byte) (off : Nat) : Program :=
  let b := charAt bs off
  { mode := modeOf (b.toNat / 64)
    start := BitVec.ofNat 32 (fieldAt bs (off + 1) 4)
    period := BitVec.ofNat 24 (fieldAt bs (off + 5) 3)
    width := BitVec.ofNat 24 (fieldAt bs (off + 8) 3)
    count := BitVec.ofNat 16 (fieldAt bs (off + 11) 2)
    active := levelOfBit (b.getLsbD 5)
    rest := levelOfBit (b.getLsbD 4) }

/-- The item of the fourteen characters that begin at `off` (R135). -/
def itemAt (bs : List Byte) (off : Nat) : Item :=
  let b := charAt bs off
  { load := if b.getLsbD 7 then .atBoundary else .atEpoch
    channel := BitVec.setWidth 7 b
    program := programAt bs (off + 1) }

/-- The two characters of a set id (R134). -/
def setIdBytes (set : SetId) : List Byte := [BitVec.ofNat 8 set.proposer.val, set.seq]

/-- The station that a character names, when it is 0 to 31. -/
def stationOf? (n : Nat) : Option Station := if h : n < 32 then some ⟨n, h⟩ else none

/-- The set id of two characters, when the proposer is 0 to 31. -/
def setIdAt? (bs : List Byte) (off : Nat) : Option SetId :=
  (stationOf? (charAt bs off).toNat).map fun p => { proposer := p, seq := charAt bs (off + 1) }

/-! ### Frames (R132, R133, R136, R137) -/

/-- The body characters of a frame (section 8.2). -/
def bodyBytes : Body → List Byte
  | .sync time => beBytes 6 time.toNat
  | .call set epoch targets =>
    setIdBytes set ++ beBytes 6 epoch.toNat ++ [BitVec.ofNat 8 targets.length]
      ++ targets.flatMap fun e => [BitVec.ofNat 8 e.station.val, e.count]
  | .commit set => setIdBytes set
  | .abort set reason => setIdBytes set ++ [BitVec.ofNat 8 reason.code]
  | .reply set verdict slots => setIdBytes set ++ [BitVec.ofNat 8 verdict.code, slots]
  | .decision set outcome => setIdBytes set ++ [BitVec.ofNat 8 outcome.code]
  | .stage set items => setIdBytes set ++ [BitVec.ofNat 8 items.length] ++ items.flatMap itemBytes
  | .inquire set => setIdBytes set
  | .missed set => setIdBytes set
  | .presence lock records slots join =>
    [BitVec.ofNat 8 lock.code, records, slots, BitVec.ofNat 8 join.toNat]

/-- The four header characters of a frame (R132). -/
def headerBytes (f : Frame) : List Byte :=
  [BitVec.ofNat 8 f.arbitration, BitVec.ofNat 8 f.body.kind.code,
   match f.dest with
   | some d => BitVec.ofNat 8 d.val
   | none => 255,
   BitVec.ofNat 8 (bodyBytes f.body).length]

/-- One bit of the CRC register's computation (R133). -/
def crcBit (r : BitVec 16) (b : Bool) : BitVec 16 :=
  let shifted := r <<< 1
  if r.msb != b then shifted ^^^ 4129 else shifted

/-- The CRC of characters, each taken most significant bit first (R133). -/
def crcOf (bs : List Byte) : BitVec 16 := (bs.flatMap byteBits).foldl crcBit 65535

/-- All the characters of a frame: header, body, CRC (section 8.1). -/
def encodeFrame (f : Frame) : List Byte :=
  let hb := headerBytes f ++ bodyBytes f.body
  hb ++ beBytes 2 (crcOf hb).toNat

/-- A frame with the destination sort of its kind and a well-formed body (R137). -/
def Frame.formed (f : Frame) : Bool := (f.dest.isNone == f.body.kind.broadcast) && f.body.formed f.src

/-- A received character and whether its stop bit was recessive (R125). -/
structure RxChar where
  value : Byte
  stop : Bool
deriving DecidableEq, Repr

/-- The list entries of a CALL body: `n` pairs from position `off`. -/
def callEntriesAt? (bs : List Byte) (off : Nat) : Nat → Option (List CallEntry)
  | 0 => some []
  | n + 1 =>
    match stationOf? (charAt bs off).toNat, callEntriesAt? bs (off + 2) n with
    | some st, some rest => some ({ station := st, count := charAt bs (off + 1) } :: rest)
    | _, _ => none

/-- The item records of a STAGE body: `m` records from position `off`. -/
def itemsAt (bs : List Byte) (off : Nat) : Nat → List Item
  | 0 => []
  | m + 1 => itemAt bs off :: itemsAt bs (off + 14) m

/-- The body that the characters of a kind hold, with the lengths and the code ranges of R137. -/
def bodyOf? (kind : FrameKind) (bs : List Byte) : Option Body :=
  match kind with
  | .sync => if bs.length = 6 then some (.sync (BitVec.ofNat 48 (fieldAt bs 0 6))) else none
  | .call =>
    if 9 ≤ bs.length ∧ bs.length = 9 + 2 * (charAt bs 8).toNat then
      match setIdAt? bs 0, callEntriesAt? bs 9 (charAt bs 8).toNat with
      | some set, some targets => some (.call set (BitVec.ofNat 48 (fieldAt bs 2 6)) targets)
      | _, _ => none
    else none
  | .commit => if bs.length = 2 then (setIdAt? bs 0).map .commit else none
  | .abort =>
    if bs.length = 3 then
      match setIdAt? bs 0, abortReasonOf? (charAt bs 2).toNat with
      | some set, some reason => some (.abort set reason)
      | _, _ => none
    else none
  | .reply =>
    if bs.length = 4 then
      match setIdAt? bs 0, verdictOf? (charAt bs 2).toNat with
      | some set, some verdict => some (.reply set verdict (charAt bs 3))
      | _, _ => none
    else none
  | .decision =>
    if bs.length = 3 then
      match setIdAt? bs 0, outcomeOf? (charAt bs 2).toNat with
      | some set, some outcome => some (.decision set outcome)
      | _, _ => none
    else none
  | .stage =>
    if 3 ≤ bs.length ∧ bs.length = 3 + 14 * (charAt bs 2).toNat then
      (setIdAt? bs 0).map fun set => .stage set (itemsAt bs 3 (charAt bs 2).toNat)
    else none
  | .inquire => if bs.length = 2 then (setIdAt? bs 0).map .inquire else none
  | .missed => if bs.length = 2 then (setIdAt? bs 0).map .missed else none
  | .presence =>
    if bs.length = 4 ∧ (charAt bs 3).toNat ≤ 1 then
      (lockStateOf? (charAt bs 0).toNat).map fun lock =>
        .presence lock (charAt bs 1) (charAt bs 2) ((charAt bs 3) == 1)
    else none

/-- The destination field: 255 is broadcast, 0 to 31 a station, any other value none of the two (R137). -/
def destOf? (n : Nat) : Option (Option Station) := if n = 255 then some none else (stationOf? n).map some

/-- The well-formed frame that a header and a body hold; `none` when the frame is malformed (R137). -/
def frameOf? (kind : FrameKind) (arbitration dest : Nat) (bs : List Byte) : Option Frame :=
  if arbitration / 32 = kind.frameClass ∧ bs.length ≤ 64 then
    match stationOf? (arbitration % 32), destOf? dest, bodyOf? kind bs with
    | some src, some d, some body =>
      let f : Frame := { src := src, dest := d, body := body }
      if f.formed then some f else none
    | _, _, _ => none
  else none

/-- The command that a valid frame is at a station that did not send it (R128). -/
def Frame.command (f : Frame) : Instr :=
  match f.body, f.dest with
  | .sync time, _ => .sync f.src time
  | .call set epoch targets, _ => .call f.src set epoch targets
  | .commit set, _ => .commit f.src set
  | .abort set reason, _ => .abort f.src set reason
  | .presence lock records slots join, _ => .presence f.src lock records slots join
  | .reply set verdict slots, some d => .reply f.src d set verdict slots
  | .decision set outcome, some d => .decision f.src d set outcome
  | .stage set items, some d => .stage f.src d set items
  | .inquire set, some d => .inquire f.src d set
  | .missed set, some d => .missed f.src d set
  | .reply _ _ _, none => .malformedFrame
  | .decision _ _, none => .malformedFrame
  | .stage _ _, none => .malformedFrame
  | .inquire _, none => .malformedFrame
  | .missed _, none => .malformedFrame

/-- What the receiver of station `own` makes of the characters of one frame: the checks of R125, then those of R126,
R136 and R137, then the own-number check of R127. -/
def classifyFrame (own : Station) (rx : List RxChar) : Instr :=
  let bs := rx.map (·.value)
  let bodyLength := (charAt bs 3).toNat
  let hb := bs.take (4 + bodyLength)
  if rx.any (fun c => !c.stop) then .crcError .framing
  else if bs.length < 6 + bodyLength then .crcError .cutShort
  else if (crcOf hb).toNat ≠ fieldAt bs (4 + bodyLength) 2 then .crcError .mismatch
  else
    match frameKindOf? (charAt bs 1).toNat with
    | none => .unknownKind
    | some kind =>
      match frameOf? kind (charAt bs 0).toNat (charAt bs 2).toNat (hb.drop 4) with
      | none => .malformedFrame
      | some f => if f.src = own then .ownNumberFrame kind else f.command

/-! ### Local-port transactions (R139, R167, R169) -/

/-- The row that a command code names; 19 to 255 are unknown (R139, R169). -/
def commandOf (code : Byte) (args : List Byte) : Instr :=
  match code.toNat with
  | 0 => .nop args
  | 1 => .configureChannel args
  | 2 => .configureCapture args
  | 3 => .configureTrim args
  | 4 => .configureNotices args
  | 5 => .start args
  | 6 => .restart args
  | 7 => .openSet args
  | 8 => .addItem args
  | 9 => .submit args
  | 10 => .withdraw args
  | 11 => .readOutcome args
  | 12 => .readCapture args
  | 13 => .readNotice args
  | 14 => .readTime args
  | 15 => .readMember args
  | 16 => .readChannel args
  | 17 => .readSet args
  | 18 => .readStatus args
  | _ => .unknownCommand code args

/-- The whole characters of the bits shifted in; a trailing group of 1 to 7 bits is discarded (R167). -/
def wholeChars : List Bool → List Byte
  | b7 :: b6 :: b5 :: b4 :: b3 :: b2 :: b1 :: b0 :: rest =>
    byteOfBits [b7, b6, b5, b4, b3, b2, b1, b0] :: wholeChars rest
  | _ => []

/-- The command that a local-port transaction carries at the release of SSEL (R167). -/
def transactionOf (bits : List Bool) : Instr :=
  match wholeChars bits with
  | [] => .transactionWithoutCommand
  | code :: args => commandOf code args

/-- The characters that the local controller shifts in for a local-port command. -/
def commandBytes : Instr → Option (List Byte)
  | .nop args => some (0 :: args)
  | .configureChannel args => some (1 :: args)
  | .configureCapture args => some (2 :: args)
  | .configureTrim args => some (3 :: args)
  | .configureNotices args => some (4 :: args)
  | .start args => some (5 :: args)
  | .restart args => some (6 :: args)
  | .openSet args => some (7 :: args)
  | .addItem args => some (8 :: args)
  | .submit args => some (9 :: args)
  | .withdraw args => some (10 :: args)
  | .readOutcome args => some (11 :: args)
  | .readCapture args => some (12 :: args)
  | .readNotice args => some (13 :: args)
  | .readTime args => some (14 :: args)
  | .readMember args => some (15 :: args)
  | .readChannel args => some (16 :: args)
  | .readSet args => some (17 :: args)
  | .readStatus args => some (18 :: args)
  | .unknownCommand code args => some (code :: args)
  | _ => none

/-! ### The opcode table -/

/-- The command that a word spells by the opcode table's bits. The table gives no row any bits, so no word spells one.
DEDUCED (log 32). -/
def decodeTableWord (_nbits _w : Nat) : Option Instr := none

end Sys2Proof
end

