-- ==== Sys2Proof/Config.lean ====
section
/-! DEFINITION. The constants that the rules state, and the three orders that the rules leave open. -/

namespace Sys2Proof.Config

/-- Recessive bit times that end a gap or a break (R114, R121). -/
def gapBits : Nat := 12
/-- Bit times from the end of a CALL to the opening of its reply window (R64). -/
def windowDelayBits : Nat := 12
/-- Bit times of one reply slot (R64). -/
def slotBits : Nat := 128
/-- Bit times of one character: start bit, eight data bits, stop bit (R113). -/
def charBits : Nat := 10
/-- Entries of the transmit queue (R115). -/
def queueLimit : Nat := 12
/-- Items of the staging store (R25). -/
def storeSlots : Nat := 32
/-- Records of the participant table (R24). -/
def tableSize : Nat := 4
/-- Entries of the recently-closed list (R26). -/
def closedLimit : Nat := 4
/-- Entries of the decision log (R73). -/
def logLimit : Nat := 8
/-- Items of a draft (R54). -/
def draftLimit : Nat := 32
/-- Other targets of a draft (R54). -/
def otherTargetLimit : Nat := 8
/-- Capture records of the capture queue (R148). -/
def captureLimit : Nat := 32
/-- Largest value of a line counter and of the total-lost count (R129, R149). -/
def counterLimit : Nat := 65535
/-- Largest value of the pending-lost count (R149). -/
def pendingLostLimit : Nat := 255
/-- Failed attempts in a row that mute the station (R122). -/
def failureLimit : Nat := 16
/-- INQUIRE attempts of one IN_DOUBT record (R37). -/
def inquiryLimit : Nat := 3
/-- Unheard membership intervals that make a station SILENT (R106). -/
def missedLimit : Nat := 3

/-- Stale timeout of a STAGING record, in bit times (R31). -/
def staleBits : Nat := 65536
/-- Decision wait and inquiry spacing, in bit times (R36, R37). -/
def decisionBits : Nat := 2048
/-- Least lead at a vote, in bit times (R32 check 6). -/
def voteLeadBits : Nat := 1024
/-- Least lead at SUBMIT and before CALL, in bit times (R58 check 6, R63). -/
def submitLeadBits : Nat := 4096
/-- Least margin at the window end, in bit times (R66). -/
def commitLeadBits : Nat := 256
/-- Largest lead at SUBMIT and at a vote, in microseconds (R32 check 7, R58 check 7). -/
def farLimit : Int := 2147483648

/-- Largest offset that a slew corrects, in microseconds (R83). -/
def slewLimit : Int := 20
/-- Microseconds of the local oscillator over which a slew is spread (R84). -/
def slewSpan : Nat := 100000
/-- Period of the sync timer, in microseconds (R92). -/
def syncPeriod : Nat := 100000
/-- Supervision time from LOCKED to HOLDOVER and from ACQUIRING to UNLOCKED (R88). -/
def holdoverAfter : Nat := 300000
/-- Supervision time from HOLDOVER to UNLOCKED (R88). -/
def unlockAfter : Nat := 2000000
/-- Time continuously UNLOCKED after which the station self-sources (R90). -/
def selfSourceAfter : Nat := 500000
/-- Membership interval (R106). -/
def memberInterval : Nat := 100000
/-- Presence period (R108). -/
def presencePeriod : Nat := 100000
/-- Mute interval (R122). -/
def mutePeriod : Nat := 100000

/-- FREE VALUE. Which of several events due at one instant is taken next: the rules say "either may be taken first"
(R18, R36, R67, R69, R71, R107). It has no body, so nothing can be proved of the order it gives.
DESIGN CHOICE (log 4). -/
opaque pickEvent : Nat → Nat

/-- FREE VALUE. The order in which the records whose epochs one step of network time passes are met (R45: "in either
order"). It has no body, so nothing can be proved of the order it gives. DESIGN CHOICE (log 5). -/
opaque recordOrder : Nat → Equiv.Perm (Fin 4)

/-- FREE VALUE. The order in which the edges that one sample shows on several capture inputs are offered to the capture queue
(R147: "in either order", "not fixed by the input numbers"). It has no body, so nothing can be proved of the order it
gives. DESIGN CHOICE (log 39). -/
opaque inputOrder : Nat → Equiv.Perm (Fin 8)

end Sys2Proof.Config
end

