-- ==== Sys2Proof/Machine/State.lean ====
section
/-! DEFINITION. Everything the spec gives one T416, as plain data: one structure per block, the queue of waiting commands, and the state after reset. -/

namespace Sys2Proof.Machine

/-! ### Output Unit (Chapter 1) -/

/-- A channel's loss policy (R1). -/
inductive LossPolicy where
  | forceSafe
  | continue
deriving DecidableEq, Repr

/-- The three pending fields of a channel record, present together exactly in SWAP_PENDING (R1). -/
structure PendingSwap where
  program : Program
  boundary : NetTime
  set : SetId
deriving DecidableEq, Repr

/-- A channel record (R1). Its state is SWAP_PENDING exactly when `pending` is present, so the state is not stored twice. -/
structure ChannelRecord where
  active : Program
  anchor : NetTime
  pending : Option PendingSwap
  safe : Level
  policy : LossPolicy
deriving DecidableEq, Repr

/-! ### Participant Unit (Chapter 2) -/

/-- The state of a participant record (R24). -/
inductive RecordState where
  | staging
  | voted
  | inDoubt
  | armed
deriving DecidableEq, Repr

/-- A participant record (R24). `timer` is the instant from which the wait timer counts bit times, absent while it is stopped. -/
structure SetRecord where
  set : SetId
  state : RecordState
  epoch : Option NetTime
  expected : Option Nat
  items : List Item
  short : Bool
  invalid : Bool
  inquiries : Nat
  windowEnd : Option Instant
  timer : Option Instant
  self : Bool
deriving DecidableEq, Repr

/-- The closure kind of a recently-closed entry (R26). -/
inductive ClosureKind where
  | noRoom
  | expired
deriving DecidableEq, Repr

/-- An entry of the recently-closed list (R26). -/
structure ClosedEntry where
  set : SetId
  kind : ClosureKind
  missedSent : Bool
deriving DecidableEq, Repr

/-- The participant state: table, recently-closed list (oldest first), claims. The staging store is the item lists of
the records: its slots in use are their lengths (R25). -/
structure Participant where
  table : Vector (Option SetRecord) 4
  closed : List ClosedEntry
  claims : Vector (Option SetId) 16
deriving DecidableEq, Repr

/-! ### Proposer Unit (Chapter 3) -/

/-- An item of a draft or of a proposal, with its target (R54). -/
structure DraftItem where
  target : Station
  item : Item
deriving DecidableEq, Repr

/-- The draft (R54). -/
structure Draft where
  epoch : NetTime
  items : List DraftItem
deriving DecidableEq, Repr

/-- A per-target result (R55); MISSED arises in the decision log alone (R76). -/
inductive TargetResult where
  | pending
  | ready
  | refused (reason : RefuseReason)
  | noReply
  | missed
deriving DecidableEq, Repr

/-- An entry of a proposal's target list (R55). -/
structure TargetEntry where
  station : Station
  count : Nat
  result : TargetResult
deriving DecidableEq, Repr

/-- The phases in which a proposal is open (R53). -/
inductive OpenPhase where
  | staging
  | calling
  | voting
  | committing
  | aborting
deriving DecidableEq, Repr

/-- The proposal's outstanding frame, in the transmit queue or waiting for room in it (R55, R62). -/
structure Outstanding where
  frame : Frame
  queued : Bool
deriving DecidableEq, Repr

/-- The proposal record (R55). `nextStage` is an index into `items`, "done" when it is their number. -/
structure Proposal where
  set : SetId
  epoch : NetTime
  phase : OpenPhase
  items : List DraftItem
  targets : List TargetEntry
  selfIncluded : Bool
  selfCount : Nat
  selfResult : TargetResult
  nextStage : Nat
  outstanding : Option Outstanding
  callSent : Bool
  windowStart : Option Instant
  windowEnd : Option Instant
  lockLost : Bool
  abortReason : Option AbortReason
deriving DecidableEq, Repr

/-- The phase with the state it holds: IDLE, DRAFTING with its draft, or an open phase with its proposal record (R53). -/
inductive Activity where
  | idle
  | drafting (draft : Draft)
  | active (proposal : Proposal)
deriving DecidableEq, Repr

/-- An entry of the decision log (R72). `abort` is absent for COMMITTED; `selfResult` is present when the set had items for its own station. -/
structure LogEntry where
  set : SetId
  epoch : NetTime
  abort : Option AbortReason
  targets : List TargetEntry
  selfResult : Option TargetResult
deriving DecidableEq, Repr

/-- The proposer state; the log is oldest first (R53, R73). -/
structure Proposer where
  activity : Activity
  sequence : BitVec 8
  log : List LogEntry
deriving DecidableEq, Repr

/-! ### Time Unit (Chapter 5) -/

/-- A slew in progress (R78, R84): the offset it corrects, the part not yet made, and its progress in microseconds. -/
structure Slew where
  offset : Int
  remaining : Int
  progress : Nat
deriving DecidableEq, Repr

/-- The Time Unit (R78). Each timer counts microseconds and is absent while stopped. -/
structure TimeUnit where
  now : NetTime
  running : Bool
  lock : LockState
  slew : Option Slew
  supervision : Option Nat
  syncTimer : Option Nat
  selfSource : Option Nat
  sample : Option NetTime
  lastStep : Option Int
  ownSync : Bool
  trim : Fin 16
deriving DecidableEq, Repr

/-! ### Membership Unit (Chapter 6) -/

/-- The state of a member entry (R100). -/
inductive MemberState where
  | absent
  | present
  | silent
  | self
deriving DecidableEq, Repr

/-- A member entry (R100). -/
structure MemberEntry where
  state : MemberState
  missed : Nat
  heard : Bool
  lastHeard : Option NetTime
  lock : Option LockState
  records : Option Nat
  slots : Option Nat
deriving DecidableEq, Repr

/-- The Membership Unit (R100). `announced` is the announcement: SENT when true. -/
structure Membership where
  entries : Vector MemberEntry 32
  interval : Option Nat
  presence : Option Nat
  announced : Bool
  ownPresence : Bool
deriving DecidableEq, Repr

/-! ### Line Controller (Chapter 7) -/

/-- The observed line state (R114). `gap` carries the recessive bit times counted at the instant `LineController.since`. -/
inductive LineState where
  | idle
  | gap (count : Nat)
  | frame
  | brk
deriving DecidableEq, Repr

/-- The frame on the line from this station (R117, R124): the queue entry or REPLY, the frame as filled at its start
edge (R120), and the start edge. -/
structure Attempt where
  reply : Bool
  entry : Frame
  sent : Frame
  start : Instant
deriving DecidableEq, Repr

/-- A REPLY waiting for its slot (R124). -/
structure PendingReply where
  frame : Frame
  start : Instant
deriving DecidableEq, Repr

/-- The eight counters (R129). -/
structure Counters where
  crcErrors : Nat
  malformed : Nat
  unknownKind : Nat
  arbitrationLosses : Nat
  bitErrors : Nat
  breaks : Nat
  mutes : Nat
  anomalies : Nat
deriving DecidableEq, Repr

/-- The Line Controller. `observed` is absent in CONFIG; `since` is the instant from which the observed state's bit times
count; `frameStart` is the start edge of the latest frame; `mute` is the mute timer, absent while not muted;
`driveUntil` is the end of the dominant drive that aborts a withdrawn frame (R116). The owner of a queue entry is the
block of its frame's kind. -/
structure LineController where
  queue : List Frame
  attempt : Option Attempt
  observed : Option LineState
  since : Instant
  frameStart : Option Instant
  driveUntil : Option Instant
  reservation : Option Instant
  replies : List PendingReply
  failures : Nat
  mute : Option Nat
  counters : Counters
deriving DecidableEq, Repr

/-! ### Capture Unit (Chapter 9) -/

/-- The edge selection of an input (R144). -/
inductive EdgeSelection where
  | none
  | rising
  | falling
  | both
deriving DecidableEq, Repr

/-- The direction of an edge (R146). -/
inductive Edge where
  | rising
  | falling
deriving DecidableEq, Repr

/-- A capture record (R146). -/
structure CaptureRecord where
  input : Fin 8
  edge : Edge
  time : NetTime
  quality : LockState
  lostBefore : Nat
deriving DecidableEq, Repr

/-- A sample of the capture inputs: its instant, and the network time and lock state that its records carry (R146, R147). -/
structure Sample where
  instant : Instant
  time : NetTime
  quality : LockState
deriving DecidableEq, Repr

/-- The Capture Unit, with the levels of its input pins. `sampled` is the microsecond of the local oscillator in which an
input's reference level was last taken, absent while capture is inactive, and `lastSample` the sample that showed the latest
edge: a microsecond has one sample of all inputs (R145, R147). -/
structure Capture where
  selections : Vector EdgeSelection 8
  pins : Vector Level 8
  refs : Vector (Option Level) 8
  sampled : Vector (Option Nat) 8
  lastSample : Option Sample
  queue : List CaptureRecord
  pendingLost : Nat
  totalLost : Nat
deriving DecidableEq, Repr

/-! ### Station Controller, Local Port, Notice Unit (Chapters 10 to 12) -/

/-- The station state (R154). -/
inductive StationState where
  | config
  | joining
  | member
  | faulted
deriving DecidableEq, Repr

/-- The Station Controller: station state and straps (R154). `resetting` holds while a hard reset lasts (R155). -/
structure StationController where
  state : StationState
  number : Station
  rate : LineRate
  auto : Bool
  resetting : Bool
deriving DecidableEq, Repr

/-- The eleven statuses (R140). -/
inductive Status where
  | ok
  | busy
  | badState
  | badArgument
  | full
  | empty
  | notLocked
  | targetAbsent
  | noRoom
  | late
  | far
deriving DecidableEq, Repr

/-- A response: the command code it answers, its status, its result characters (R140). -/
structure Response where
  code : Byte
  status : Status
  results : List Byte
deriving DecidableEq, Repr

/-- A local-port transaction in progress: one that may carry a command, or one whose SSEL was asserted before the end of a hard reset (R168). -/
inductive Transaction where
  | live
  | spoiled
deriving DecidableEq, Repr

/-- The Local Port: the stored response (R165) and the transaction in progress, absent while SSEL is released. -/
structure LocalPort where
  stored : Response
  transaction : Option Transaction
deriving DecidableEq, Repr

/-- The eleven notices, in priority order (R174). -/
inductive Notice where
  | fault
  | line
  | lock
  | step
  | setDropped
  | setApplied
  | outcome
  | lateReport
  | member
  | captureLost
  | capture
deriving DecidableEq, Repr

/-- The Notice Unit, coded as R142 codes the enable set: bit q - 1 is the notice of priority q. Bit 10 of `flags` is
always 0: the CAPTURE flag follows the capture queue and is not stored (R174). -/
structure NoticeUnit where
  flags : BitVec 11
  enable : BitVec 11
deriving DecidableEq, Repr

/-- The local oscillator: half microseconds counted, whether the microsecond that ends now has still to be taken, and
the MODEL's own count of the free choices made. -/
structure Clock where
  osc : Instant
  microDue : Bool
  choices : Nat
deriving DecidableEq, Repr

/-! ### The whole block -/

/-- Why the machine stops with a fault. It never does: the spec gives every command an effect. -/
inductive Fault where
deriving DecidableEq, Repr

/-- Why a command is refused. -/
inductive Refusal where
  /-- Raised by `exec` for a row that has no meaning yet (safe: the run stops). No arm of this model raises it. -/
  | notModelled (mnemonic : String)
deriving DecidableEq, Repr

/-- One T416: its ten blocks, its local oscillator, and the commands waiting, first in, first out. -/
structure State where
  clock : Clock
  ctl : StationController
  chans : Vector ChannelRecord 16
  part : Participant
  prop : Proposer
  time : TimeUnit
  memb : Membership
  line : LineController
  capt : Capture
  port : LocalPort
  notes : NoticeUnit
  pending : List Instr
deriving DecidableEq, Repr

/-! ### Updates, one per block -/

def State.setClock (s : State) (x : Clock) : State := { s with clock := x }
def State.setCtl (s : State) (x : StationController) : State := { s with ctl := x }
def State.setChans (s : State) (x : Vector ChannelRecord 16) : State := { s with chans := x }
def State.setPart (s : State) (x : Participant) : State := { s with part := x }
def State.setProp (s : State) (x : Proposer) : State := { s with prop := x }
def State.setTime (s : State) (x : TimeUnit) : State := { s with time := x }
def State.setMemb (s : State) (x : Membership) : State := { s with memb := x }
def State.setLine (s : State) (x : LineController) : State := { s with line := x }
def State.setCapt (s : State) (x : Capture) : State := { s with capt := x }
def State.setPort (s : State) (x : LocalPort) : State := { s with port := x }
def State.setNotes (s : State) (x : NoticeUnit) : State := { s with notes := x }
def State.setPending (s : State) (x : List Instr) : State := { s with pending := x }

/-! ### Values at reset -/

/-- HOLD(x) as the T416 makes it: timing fields 0, rest level LOW (R3). -/
def holdProgram (x : Level) : Program :=
  { mode := .hold, start := 0, period := 0, width := 0, count := 0, active := x, rest := .low }

/-- A channel record at hard reset (R21). -/
def ChannelRecord.initial : ChannelRecord :=
  { active := holdProgram .low, anchor := 0, pending := none, safe := .low, policy := .forceSafe }

/-- The participant state, cleared (R51). -/
def Participant.initial : Participant :=
  { table := Vector.replicate 4 none, closed := [], claims := Vector.replicate 16 none }

/-- The proposer state at reset (R77). -/
def Proposer.initial : Proposer := { activity := .idle, sequence := 1, log := [] }

/-- The Time Unit at reset, with the trim it is left (R99). -/
def TimeUnit.initial (trim : Fin 16) : TimeUnit :=
  { now := 0, running := false, lock := .unlocked, slew := none, supervision := none, syncTimer := none,
    selfSource := none, sample := none, lastStep := none, ownSync := false, trim := trim }

/-- The entry of another station at reset (R112). -/
def MemberEntry.initial : MemberEntry :=
  { state := .absent, missed := 0, heard := false, lastHeard := none, lock := none, records := none, slots := none }

/-- The Membership Unit of station `own` at reset (R101, R112). -/
def Membership.initial (own : Station) : Membership :=
  { entries := (Vector.replicate 32 MemberEntry.initial).set own.val { MemberEntry.initial with state := .self }
    interval := none, presence := none, announced := false, ownPresence := false }

/-- Every counter 0 (R130). -/
def Counters.initial : Counters :=
  { crcErrors := 0, malformed := 0, unknownKind := 0, arbitrationLosses := 0, bitErrors := 0, breaks := 0, mutes := 0,
    anomalies := 0 }

/-- The Line Controller at reset (R130). -/
def LineController.initial : LineController :=
  { queue := [], attempt := none, observed := none, since := 0, frameStart := none, driveUntil := none,
    reservation := none, replies := [], failures := 0, mute := none, counters := Counters.initial }

/-- The Capture Unit at reset, with the selections it is left and the levels on its pins (R153). -/
def Capture.initial (selections : Vector EdgeSelection 8) (pins : Vector Level 8) : Capture :=
  { selections := selections, pins := pins, refs := Vector.replicate 8 none, sampled := Vector.replicate 8 none,
    lastSample := none, queue := [], pendingLost := 0, totalLost := 0 }

/-- The stored response at the end of a hard reset: the response of a NOP (R165). -/
def Response.initial : Response := { code := 0, status := .ok, results := [] }

/-- The Notice Unit at hard reset: every flag clear, every notice enabled (R179). -/
def NoticeUnit.initial : NoticeUnit := { flags := 0, enable := BitVec.allOnes 11 }

/-- The machine right after a hard reset with the auto-start strap clear. DESIGN CHOICE (logs 1 and 2): the straps read
station 0, line rate code 0, AUTO clear, the capture pins are LOW, and the oscillator count starts at 0. -/
def State.reset : State :=
  { clock := { osc := 0, microDue := false, choices := 0 }
    ctl := { state := .config, number := 0, rate := .k250, auto := false, resetting := false }
    chans := Vector.replicate 16 ChannelRecord.initial
    part := Participant.initial
    prop := Proposer.initial
    time := TimeUnit.initial 0
    memb := Membership.initial 0
    line := LineController.initial
    capt := Capture.initial (Vector.replicate 8 .none) (Vector.replicate 8 .low)
    port := { stored := Response.initial, transaction := none }
    notes := NoticeUnit.initial
    pending := [] }

end Sys2Proof.Machine
end

