-- ==== Sys2Proof/Machine/Flags.lean ====
section
/-! DEFINITION. Notices, the attention line and the line counters (Chapter 12, R129). -/

namespace Sys2Proof.Machine

/-- A notice's priority, which is its code in READ NOTICE (R174). -/
def Notice.code : Notice → Nat
  | .fault => 1
  | .line => 2
  | .lock => 3
  | .step => 4
  | .setDropped => 5
  | .setApplied => 6
  | .outcome => 7
  | .lateReport => 8
  | .member => 9
  | .captureLost => 10
  | .capture => 11

/-- The notices, most urgent first (R174). -/
def allNotices : List Notice :=
  [.fault, .line, .lock, .step, .setDropped, .setApplied, .outcome, .lateReport, .member, .captureLost, .capture]

/-- The bit of a notice of priority q has weight 2^(q - 1) (R142). -/
def Notice.mask (n : Notice) : BitVec 11 := BitVec.twoPow 11 (n.code - 1)

/-- Raise a notice: its flag becomes pending (R174). -/
def raise (n : Notice) (s : State) : State :=
  s.setNotes { s.notes with flags := s.notes.flags ||| n.mask }

/-- Raise a notice when `b` holds. -/
def raiseIf (b : Bool) (n : Notice) (s : State) : State := if b then raise n s else s

/-- Clear a notice's flag. -/
def clearNotice (n : Notice) (s : State) : State :=
  s.setNotes { s.notes with flags := s.notes.flags &&& ~~~n.mask }

/-- Whether a notice is pending; CAPTURE is pending while the capture queue holds a record (R151, R174). -/
def isPending (n : Notice) (s : State) : Bool :=
  match n with
  | .capture => !s.capt.queue.isEmpty
  | _ => s.notes.flags.getLsbD (n.code - 1)

/-- Whether a notice is enabled (R175). -/
def isEnabled (n : Notice) (s : State) : Bool := s.notes.enable.getLsbD (n.code - 1)

/-- The most urgent pending notice that is enabled (R176). -/
def urgentNotice (s : State) : Option Notice := allNotices.find? fun n => isPending n s && isEnabled n s

/-- ATTN is asserted while at least one flag is pending whose notice is enabled, and released during a hard reset (R155, R178). -/
def attn (s : State) : Bool := !s.ctl.resetting && allNotices.any fun n => isPending n s && isEnabled n s

/-- One more event of a counter, which stays at 65,535 (R129). -/
def countUp (n : Nat) : Nat := min (n + 1) Config.counterLimit

/-- Apply a change to the counters. -/
def withCounters (f : Counters → Counters) (s : State) : State :=
  s.setLine { s.line with counters := f s.line.counters }

def countCrcError : State → State := withCounters fun c => { c with crcErrors := countUp c.crcErrors }
def countMalformed : State → State := withCounters fun c => { c with malformed := countUp c.malformed }
def countUnknownKind : State → State := withCounters fun c => { c with unknownKind := countUp c.unknownKind }
def countArbitrationLoss : State → State :=
  withCounters fun c => { c with arbitrationLosses := countUp c.arbitrationLosses }
def countBitError : State → State := withCounters fun c => { c with bitErrors := countUp c.bitErrors }
def countBreak : State → State := withCounters fun c => { c with breaks := countUp c.breaks }
def countMute : State → State := withCounters fun c => { c with mutes := countUp c.mutes }

/-- An event that the Participant or the Proposer Unit ignores and counts (R129). -/
def countAnomaly : State → State := withCounters fun c => { c with anomalies := countUp c.anomalies }

end Sys2Proof.Machine
end

