-- ==== Sys2Proof/Machine/Ops.lean ====
section
/-! DEFINITION. The operations that several blocks share: network-time comparison, bit times, the transmit queue, attempts and the observed line. -/

namespace Sys2Proof.Machine

/-! ### Network times and bit times -/

/-- The signed difference a - b of two network times, in -2^47 to 2^47 - 1 (R80). -/
def sdiff (a b : NetTime) : Int := (a - b).toInt

/-- Network time `now` has reached or passed `t` (R80). -/
def reached (now t : NetTime) : Bool := decide (0 ≤ sdiff now t)

/-- A network time moved by a signed amount, modulo 2^48 (R85). -/
def moveTime (t : NetTime) (o : Int) : NetTime := t + BitVec.ofInt 48 o

/-- One bit time, in half microseconds: 4, 2, 1 or 0.5 microseconds (R113). -/
def bitTime : LineRate → Nat
  | .k250 => 8
  | .k500 => 4
  | .m1 => 2
  | .m2 => 1

/-- A number of bit times at the strapped rate, in half microseconds. -/
def bits (s : State) (n : Nat) : Nat := n * bitTime s.ctl.rate

/-- A number of bit times at the strapped rate, in microseconds (R32 check 6). -/
def bitMicros (rate : LineRate) (n : Nat) : Int := ((n * bitTime rate / 2 : Nat) : Int)

/-- The microsecond of the local oscillator in which the present instant lies. DESIGN CHOICE (log 35). -/
def microsecond (s : State) : Nat := s.clock.osc / 2

/-- The model's count of free choices advances. -/
def countChoice (s : State) : State := s.setClock { s.clock with choices := s.clock.choices + 1 }

/-- The whole bit times counted since an instant; 0 while the instant lies ahead. DESIGN CHOICE (log 8). -/
def bitsSince (s : State) (t : Instant) : Nat := (s.clock.osc - t) / bitTime s.ctl.rate

/-! ### The owner's view of a frame (R115) -/

/-- The frame is this station's SYNC. -/
def isSync (f : Frame) : Bool := f.body.kind == .sync

/-- The frame is an INQUIRE for the set. -/
def isInquireFor (set : SetId) (f : Frame) : Bool := f.body == .inquire set

/-- The frame is one of a proposal's: STAGE, CALL, COMMIT or ABORT (R62). -/
def isProposalFrame (f : Frame) : Bool :=
  match f.body.kind with
  | .stage => true
  | .call => true
  | .commit => true
  | .abort => true
  | _ => false

/-! ### The transmit queue (R115, R116) -/

/-- Insert a frame after every entry whose arbitration value is not higher (R115). -/
def insertFrame (f : Frame) : List Frame → List Frame
  | [] => [f]
  | g :: rest => if g.arbitration ≤ f.arbitration then g :: insertFrame f rest else f :: g :: rest

/-- Whether the queue has room for one more frame (R115). -/
def queueHasRoom (s : State) : Bool := decide (s.line.queue.length < Config.queueLimit)

/-- Offer a frame to the transmit queue: accepted at its place, or refused with the queue unchanged (R115). -/
def offer (f : Frame) (s : State) : State :=
  if queueHasRoom s then s.setLine { s.line with queue := insertFrame f s.line.queue } else s

/-- A frame of this station with the destination its kind or its owner gives (R132). -/
def ownFrame (s : State) (dest : Option Station) (body : Body) : Frame :=
  { src := s.ctl.number, dest := dest, body := body }

/-- Replace the open proposal; nothing when none is open. -/
def mapProposal (f : Proposal → Proposal) (s : State) : State :=
  match s.prop.activity with
  | .active p => s.setProp { s.prop with activity := .active (f p) }
  | _ => s

/-- Offer a frame of the proposal: it becomes the outstanding frame, queued or waiting for room (R62). -/
def offerProposalFrame (f : Frame) (s : State) : State :=
  mapProposal (fun p => { p with outstanding := some { frame := f, queued := queueHasRoom s } }) (offer f s)

/-- The report that a queue entry has been freed: a waiting frame of the proposal is offered again (R62, R116). -/
def entryFreed (s : State) : State :=
  match s.prop.activity with
  | .active p =>
    match p.outstanding with
    | some out => if out.queued then s else offerProposalFrame out.frame s
    | none => s
  | _ => s

/-- The end of the stop bit of the character in progress in an attempt (R116). -/
def characterEnd (s : State) (a : Attempt) : Instant :=
  let chars := (encodeFrame a.sent).length
  a.start + bits s (Config.charBits * min (bitsSince s a.start / Config.charBits + 1) chars)

/-- Abort the attempt in progress: the line is driven dominant to the end of the character in progress, and nothing is
counted (R116). At the instant at which the last stop bit completes, that stop bit is still driven dominant: the drive
covers at least the half microsecond at the instant of the withdrawal. DEDUCED (log 34). -/
def abortAttempt (s : State) : State :=
  match s.line.attempt with
  | some a => s.setLine
      { s.line with attempt := none, driveUntil := some (max (characterEnd s a) (s.clock.osc + 1)) }
  | none => s

/-- The attempt in progress is of a queue entry that satisfies the predicate. -/
def attemptMatches (which : Frame → Bool) (s : State) : Bool :=
  match s.line.attempt with
  | some a => !a.reply && which a.entry
  | none => false

/-- Withdraw the queued frame that satisfies the predicate, if there is one: it leaves the queue, an attempt with it is
aborted on the line, and the entry-freed report follows (R116). -/
def withdrawFrame (which : Frame → Bool) (s : State) : State :=
  if s.line.queue.any which then
    let s₁ := if attemptMatches which s then abortAttempt s else s
    entryFreed (s₁.setLine { s₁.line with queue := s₁.line.queue.eraseP which })
  else s

/-- Clear the transmit queue: an attempt in progress is aborted and no report is made (R116, R130, R131). -/
def clearQueue (s : State) : State :=
  let s₁ := abortAttempt s
  s₁.setLine { s₁.line with queue := [] }

/-! ### PRESENCE and SYNC offers (R92, R108) -/

/-- The PRESENCE of this station as it stands in the queue; its figures are filled at each attempt (R109). -/
def presenceFrame (s : State) (join : Bool) : Frame := ownFrame s none (.presence .unlocked 0 0 join)

/-- The offer of a PRESENCE, with its join flag set while the announcement is NOT_SENT (R108, R110). -/
def offerPresence (s : State) : State :=
  if s.memb.ownPresence then s
  else
    let s₁ := offer (presenceFrame s (!s.memb.announced)) s
    s₁.setMemb { s₁.memb with ownPresence := queueHasRoom s }

/-- The offer of this station's SYNC; its time is filled at each attempt (R92, R93). -/
def offerSync (s : State) : State :=
  let s₁ := offer (ownFrame s none (.sync 0)) s
  s₁.setTime { s₁.time with ownSync := queueHasRoom s }

/-- Withdraw this station's outstanding SYNC (R87, R91). -/
def withdrawSync (s : State) : State :=
  if s.time.ownSync then
    withdrawFrame isSync (s.setTime { s.time with ownSync := false })
  else s

/-! ### The observed line (R114) -/

/-- The recessive bit times counted in GAP (R114). -/
def gapCount (s : State) (count : Nat) : Nat := count + bitsSince s s.line.since

/-- The observed state becomes `l`, its bit times counting from now. -/
def observe (l : LineState) (s : State) : State :=
  s.setLine { s.line with observed := some l, since := s.clock.osc }

/-- A frame ends: FRAME becomes GAP, with the count at 0, or at 1 for a frame cut short, whose first counted bit time
is the one that begins now (R114). DEDUCED (log 13). -/
def endFrame (cutShort : Bool) (s : State) : State :=
  match s.line.observed with
  | some .frame =>
    if cutShort then
      s.setLine { s.line with observed := some (.gap 1), since := s.clock.osc + bitTime s.ctl.rate }
    else observe (.gap 0) s
  | _ => s

/-- This station observes the line: in JOINING, MEMBER and FAULTED (R114). -/
def observesLine (s : State) : Bool := s.ctl.state != .config

/-- This station checks frames: in JOINING and MEMBER (R125). -/
def checksFrames (s : State) : Bool := s.ctl.state == .joining || s.ctl.state == .member

/-- A frame can end in reception now: frames are checked, no break has begun during it (R121), and it is not a frame
that this station transmits (R128). -/
def receiving (s : State) : Bool :=
  checksFrames s && s.line.attempt.isNone && s.line.observed != some .brk

/-! ### Failed attempts (R122) -/

/-- A failed attempt: it leaves the line, and the consecutive-failure count increases; at 16 the station enters MUTED (R122). -/
def failAttempt (s : State) : State :=
  let failures := min (s.line.failures + 1) Config.failureLimit
  let s₁ := s.setLine { s.line with attempt := none, failures := failures }
  if failures = Config.failureLimit then
    raise .line (countMute (s₁.setLine { s₁.line with mute := some 0 }))
  else s₁

/-! ### What the line transceiver sees -/

/-- The bits of characters on the line: start bit 0, eight data bits most significant first, stop bit 1 (R113). -/
def lineBits (bs : List Byte) : List Bool := bs.flatMap fun b => false :: (byteBits b ++ [true])

/-- LTX is driven dominant: by the present bit of the attempt's frame, or by the abort of a withdrawn frame (R113, R116);
never while a hard reset lasts (R155). DEDUCED (log 34). -/
def ltxDominant (s : State) : Bool :=
  let aborting :=
    match s.line.driveUntil with
    | some t => decide (s.clock.osc < t)
    | none => false
  let sending :=
    match s.line.attempt with
    | some a => !((lineBits (encodeFrame a.sent)).getD (bitsSince s a.start) true)
    | none => false
  !s.ctl.resetting && (aborting || sending)

/-- The instant at which the attempt's frame has its last stop bit complete: (6 + L) characters after its start edge (R113). -/
def attemptEnd (s : State) (a : Attempt) : Instant :=
  a.start + bits s (Config.charBits * (encodeFrame a.sent).length)

end Sys2Proof.Machine
end

