-- ==== Sys2Proof/Machine/Capturing.lean ====
section
/-! DEFINITION. The Capture Unit: samples, edges, the capture queue (Chapter 9). -/

namespace Sys2Proof.Machine

/-- Capture is active in JOINING, MEMBER and FAULTED (R145). -/
def captureActive (s : State) : Bool := s.ctl.state != .config

/-- The edge that a sample shows against the reference level (R145). -/
def edgeOf (ref : Option Level) (level : Level) : Option Edge :=
  match ref with
  | none => none
  | some r => if r = level then none else some (if level = .high then .rising else .falling)

/-- The selection names the edge (R144). -/
def selects (sel : EdgeSelection) (e : Edge) : Bool :=
  match sel, e with
  | .none, _ => false
  | .rising, .rising => true
  | .rising, .falling => false
  | .falling, .rising => false
  | .falling, .falling => true
  | .both, _ => true

/-- Offer a capture record: accepted at the newest end, or dropped, counted and reported (R146, R148, R149). -/
def offerCapture (input : Fin 8) (e : Edge) (s : State) : State :=
  let c := s.capt
  if c.queue.length < Config.captureLimit then
    let r : CaptureRecord :=
      { input := input, edge := e, time := s.time.now, quality := s.time.lock, lostBefore := c.pendingLost }
    s.setCapt { c with queue := c.queue ++ [r], pendingLost := 0 }
  else
    raise .captureLost
      (s.setCapt { c with
        pendingLost := min (c.pendingLost + 1) Config.pendingLostLimit
        totalLost := min (c.totalLost + 1) Config.counterLimit })

/-- The level of an input's pin. -/
def setPin (input : Fin 8) (level : Level) (s : State) : State :=
  s.setCapt { s.capt with pins := s.capt.pins.set input.val level }

/-- A sample of the inputs taken now. -/
def sampleNow (s : State) : Sample := { instant := s.clock.osc, time := s.time.now, quality := s.time.lock }

/-- A sample taken now is this microsecond's: no earlier sample of the microsecond has shown an edge (R145, R147). -/
def sampleOpen (s : State) : Bool :=
  match s.capt.lastSample with
  | some p => p.instant / 2 != microsecond s || p == sampleNow s
  | none => true

/-- This input has not yet been taken in this microsecond: it yields at most one edge per microsecond (R145). -/
def unsampled (s : State) (input : Fin 8) : Bool := s.capt.sampled[input] != some (microsecond s)

/-- The edge that a sample taken now shows on an input, capture being active (R145). -/
def shownEdge (s : State) (input : Fin 8) : Option Edge :=
  if captureActive s && sampleOpen s && unsampled s input then edgeOf s.capt.refs[input] s.capt.pins[input] else none

/-- A sample taken now shows an edge on the input. -/
def sampleDue (s : State) (input : Fin 8) : Bool := (shownEdge s input).isSome

/-- The reference level becomes the level that this sample shows (R145). -/
def setReference (input : Fin 8) (s : State) : State :=
  s.setCapt
    { s.capt with
      refs := s.capt.refs.set input.val (some s.capt.pins[input])
      sampled := s.capt.sampled.set input.val (some (microsecond s))
      lastSample := some (sampleNow s) }

/-- What a sample shows on one input: an edge changes the reference level, and makes a record when the selection names it
(R144 to R146). -/
def takeEdge (input : Fin 8) (s : State) : State :=
  match shownEdge s input with
  | some e =>
    let s₁ := setReference input s
    if selects s.capt.selections[input] e then offerCapture input e s₁ else s₁
  | none => s

/-- At most one input shows an edge now: the order of the inputs cannot be seen. -/
def fewEdges (s : State) : Bool := decide ((List.finRange 8).countP (sampleDue s) ≤ 1)

/-- The order in which a sample's edges are offered, free when there are several (R147). DESIGN CHOICE (log 39). -/
def sampleOrder (s : State) : List (Fin 8) :=
  if fewEdges s then List.finRange 8 else (List.finRange 8).map (Config.inputOrder s.clock.choices)

/-- One sample of all inputs: every input that shows an edge is taken at it, so that its records carry one time and one
quality (R145, R147). -/
def sampleInputs (s : State) : State :=
  (sampleOrder s).foldl (fun t i => takeEdge i t) (if fewEdges s then s else countChoice s)

/-- CAPTURE_EDGE: a pin shows a level, and the inputs are sampled (R144 to R147). In a microsecond whose sample has been
taken the level waits on the pin for the next. DEDUCED (log 21). -/
def execCaptureEdge (input : Fin 8) (level : Level) (s : State) : Host.Outcome State Fault Refusal :=
  .next (sampleInputs (setPin input level s))

end Sys2Proof.Machine
end

