-- ==== Sys2Proof/Machine/Outputs.lean ====
section
/-! DEFINITION. The Output Unit: output levels, handover, pending swaps, loss of lock (Chapter 1). -/

namespace Sys2Proof.Machine

/-- The start instant anchor + s, modulo 2^48 (R5). -/
def startInstant (p : Program) (anchor : NetTime) : NetTime := anchor + p.start.setWidth 48

/-- A program is valid (R4). -/
def programValid (p : Program) : Bool :=
  match p.mode with
  | .hold => true
  | .pulse => decide (1 ≤ p.width.toNat)
  | .train => decide (2 ≤ p.period.toNat) && decide (1 ≤ p.width.toNat) && decide (p.width.toNat < p.period.toNat)
  | .reserved => false

/-- An item is valid: its program is valid and its channel is 0 to 15 (R4). -/
def itemValid (it : Item) : Bool := programValid it.program && decide (it.channel.toNat < 16)

/-- The item names channel `c`. -/
def onChannel (c : Fin 16) (it : Item) : Bool := it.channel.toNat == c.val

/-- A TRAIN is running at offset d: it has started and is not exhausted (R7, R12). -/
def trainRunning (p : Program) (d : Int) : Bool :=
  decide (0 ≤ d) && (p.count == 0 || decide (d / (p.period.toNat : Int) < (p.count.toNat : Int)))

/-- The output level of a program for its anchor at a network time (R5 to R7). No channel holds mode code 3 (R4, R143). -/
def levelAt (p : Program) (anchor now : NetTime) : Level :=
  let d := sdiff now (startInstant p anchor)
  match p.mode with
  | .hold => p.active
  | .pulse => if 0 ≤ d ∧ d < (p.width.toNat : Int) then p.active else p.rest
  | .train =>
    if trainRunning p d then
      if d % (p.period.toNat : Int) < (p.width.toNat : Int) then p.active else p.rest
    else p.rest
  | .reserved => p.rest

/-- The level on the pin of channel `c` (R8); LOW while a hard reset lasts (R155). -/
def pinLevel (s : State) (c : Fin 16) : Level :=
  if s.ctl.resetting then .low else levelAt s.chans[c].active s.chans[c].anchor s.time.now

/-- The boundary instant b of an AT_BOUNDARY item over the old program, for the epoch e (R12). -/
def boundaryOf (old : Program) (anchor e : NetTime) : NetTime :=
  let d := sdiff e (startInstant old anchor)
  let p : Int := old.period.toNat
  match old.mode with
  | .train =>
    if trainRunning old d then
      if d % p = 0 then e else moveTime (startInstant old anchor) ((d / p + 1) * p)
    else e
  | .pulse =>
    if 0 ≤ d ∧ d < (old.width.toNat : Int) then moveTime (startInstant old anchor) old.width.toNat else e
  | .hold => e
  | .reserved => e

/-- Install a program with an anchor (R11). -/
def installProgram (ch : ChannelRecord) (p : Program) (anchor : NetTime) : ChannelRecord :=
  { ch with active := p, anchor := anchor }

/-- One item of a handover at its channel record (R11 to R13). -/
def takeItem (set : SetId) (e now : NetTime) (it : Item) (ch : ChannelRecord) : ChannelRecord :=
  match it.load with
  | .atEpoch => installProgram ch it.program e
  | .atBoundary =>
    let b := boundaryOf ch.active ch.anchor e
    if b = e then installProgram ch it.program e
    else if reached now b then installProgram ch it.program b
    else { ch with pending := some { program := it.program, boundary := b, set := set } }

/-- All items of a handover, taken together (R10); the claims of the installed ones are released (R14, R42). -/
def handover (set : SetId) (e : NetTime) (items : List Item) (s : State) : State :=
  let chans := Vector.ofFn fun c : Fin 16 =>
    match items.find? (onChannel c) with
    | some it => takeItem set e s.time.now it s.chans[c]
    | none => s.chans[c]
  let claims := Vector.ofFn fun c : Fin 16 =>
    if items.any (onChannel c) && chans[c].pending.isNone && s.part.claims[c] == some set then none
    else s.part.claims[c]
  (s.setChans chans).setPart { s.part with claims := claims }

/-- A release report for channel `c` and set id `set`: the claim is cleared when that set id holds it (R27). -/
def releaseClaim (c : Fin 16) (set : SetId) (s : State) : State :=
  if s.part.claims[c] = some set then s.setPart { s.part with claims := s.part.claims.set c.val none } else s

/-- The swap of channel `c` is due: it is SWAP_PENDING and network time has reached its boundary (R16), by the signed difference of
R80. DESIGN CHOICE for a step back of nearly half the circle (log 42). -/
def swapDue (s : State) (c : Fin 16) : Bool :=
  match s.chans[c].pending with
  | some w => reached s.time.now w.boundary
  | none => false

/-- The swap of channel `c` completes when network time has reached its boundary (R16). -/
def completeSwap (c : Fin 16) (s : State) : State :=
  match s.chans[c].pending with
  | some w =>
    if reached s.time.now w.boundary then
      let ch := { installProgram s.chans[c] w.program w.boundary with pending := none }
      raise .setApplied (releaseClaim c w.set (s.setChans (s.chans.set c.val ch)))
    else s
  | none => s

/-- Force a channel safe: HOLD(safe level), anchor 0, NORMAL (R20, R22). -/
def forceSafe (ch : ChannelRecord) : ChannelRecord :=
  { ch with active := holdProgram ch.safe, anchor := 0, pending := none }

/-- A channel record when lock becomes UNLOCKED: the pending swap is dropped, then the loss policy applied (R17). -/
def loseLock (ch : ChannelRecord) : ChannelRecord :=
  match ch.policy with
  | .forceSafe => forceSafe ch
  | .continue => { ch with pending := none }

/-- The Output Unit's reaction to UNLOCKED, with its release reports (R17, R27). -/
def outputsLoseLock (s : State) : State :=
  let claims := Vector.ofFn fun c : Fin 16 =>
    match s.chans[c].pending with
    | some w => if s.part.claims[c] = some w.set then none else s.part.claims[c]
    | none => s.part.claims[c]
  (s.setChans (s.chans.map loseLock)).setPart { s.part with claims := claims }

end Sys2Proof.Machine
end

