-- ==== Sys2Proof/Machine/Participation.lean ====
section
/-! DEFINITION. The Participant Unit: records, staging, the vote, decisions, the epoch (Chapter 2). -/

namespace Sys2Proof.Machine

/-- The positions of the participant table, lowest first (R24). -/
def positions : List (Fin 4) := [0, 1, 2, 3]

/-- The items that a table position holds. -/
def itemsAtPos (o : Option SetRecord) : List Item :=
  match o with
  | some r => r.items
  | none => []

/-- The staging-store slots in use (R25). -/
def slotsInUse (s : State) : Nat := (positions.map fun i => (itemsAtPos s.part.table[i]).length).sum

/-- The free-slot count (R25). -/
def freeSlots (s : State) : Nat := Config.storeSlots - slotsInUse s

/-- The free-record count (R25). -/
def freeRecords (s : State) : Nat := positions.countP fun i => s.part.table[i].isNone

/-- The lowest-numbered empty position (R24). -/
def emptyPos (s : State) : Option (Fin 4) := positions.find? fun i => s.part.table[i].isNone

/-- A position holds a record that satisfies the predicate. -/
def holdsRecord (which : SetRecord → Bool) (s : State) (i : Fin 4) : Bool :=
  match s.part.table[i] with
  | some r => which r
  | none => false

/-- The position of the record for a set id; the table never holds two of them (R24). -/
def findRecord (set : SetId) (s : State) : Option (Fin 4) :=
  positions.find? (holdsRecord (fun r => r.set == set) s)

/-- The recently-closed list holds the set id with the closure kind. -/
def closedAs (set : SetId) (kind : ClosureKind) (s : State) : Bool :=
  s.part.closed.any fun e => e.set == set && e.kind == kind

/-- Write a table position. -/
def putRecord (i : Fin 4) (o : Option SetRecord) (s : State) : State :=
  s.setPart { s.part with table := s.part.table.set i.val o }

/-- Make an entry of the recently-closed list (R26): an older entry of the set id goes, and the oldest when four are held. -/
def addClosed (set : SetId) (kind : ClosureKind) (s : State) : State :=
  let kept := s.part.closed.filter fun e => e.set != set
  let room := if kept.length < Config.closedLimit then kept else kept.drop 1
  s.setPart { s.part with closed := room ++ [{ set := set, kind := kind, missedSent := false }] }

/-- Release the claims that a set id holds on the channels of items (R27). -/
def releaseItems (set : SetId) (items : List Item) (s : State) : State :=
  let claims := Vector.ofFn fun c : Fin 16 =>
    if items.any (onChannel c) && s.part.claims[c] == some set then none else s.part.claims[c]
  s.setPart { s.part with claims := claims }

/-- Take a claim for a set id on every channel of items (R33). -/
def claimItems (set : SetId) (items : List Item) (s : State) : State :=
  let claims := Vector.ofFn fun c : Fin 16 => if items.any (onChannel c) then some set else s.part.claims[c]
  s.setPart { s.part with claims := claims }

/-- Free a record without handing its items over: its position and slots are freed, the claims it holds released (a
STAGING record holds none), its queued INQUIRE withdrawn (R25, R27, R37). DEDUCED (log 30). -/
def freeRecord (i : Fin 4) (s : State) : State :=
  match s.part.table[i] with
  | some r =>
    let s₁ := putRecord i none s
    let s₂ := if r.state = .staging then s₁ else releaseItems r.set r.items s₁
    withdrawFrame (isInquireFor r.set) s₂
  | none => s

/-- Free every record that satisfies the predicate; SET_DROPPED when there is at least one (R49, R50). -/
def freeMatching (which : SetRecord → Bool) (s : State) : State :=
  let hit := positions.any (holdsRecord which s)
  raiseIf hit .setDropped
    (positions.foldl (fun t i => if holdsRecord which t i then freeRecord i t else t) s)

/-- The participant state is cleared, without notices (R51). -/
def clearParticipant (s : State) : State := s.setPart Participant.initial

/-! ### Staging (R29, R30) -/

/-- Insert an item in channel order. -/
def insertItem (it : Item) : List Item → List Item
  | [] => [it]
  | x :: rest => if x.channel.toNat < it.channel.toNat then x :: insertItem it rest else it :: x :: rest

/-- Replace the item of the same channel in its slot. -/
def replaceItem (it : Item) (items : List Item) : List Item :=
  items.map fun x => if x.channel = it.channel then it else x

/-- One item of a STAGE taken into a record, `free` slots being free (R30). -/
def stageItem (free : Nat) (r : SetRecord) (it : Item) : SetRecord :=
  if !itemValid it then { r with invalid := true }
  else if r.items.any (fun x => x.channel == it.channel) then { r with items := replaceItem it r.items }
  else if 0 < free then { r with items := insertItem it r.items }
  else { r with short := true }

/-- The items of a STAGE, one at a time in the frame's order; a new item takes one of the `free` slots (R30). -/
def stageItems : Nat → SetRecord → List Item → SetRecord
  | _, r, [] => r
  | free, r, it :: rest =>
    let r' := stageItem free r it
    stageItems (free - (r'.items.length - r.items.length)) r' rest

/-- A new record in STAGING (R29, R46). -/
def newRecord (set : SetId) (items : List Item) (self : Bool) : SetRecord :=
  { set := set, state := .staging, epoch := none, expected := none, items := items, short := false, invalid := false,
    inquiries := 0, windowEnd := none, timer := none, self := self }

/-- The items of a STAGE are taken into the STAGING record at a position, and its stale timer restarts (R30). -/
def takeStage (i : Fin 4) (items : List Item) (s : State) : State :=
  match s.part.table[i] with
  | some r => putRecord i (some { stageItems (freeSlots s) r items with timer := some s.clock.osc }) s
  | none => s

/-- What a STAGE does, by what its set id finds (R29). -/
def stageEffect (set : SetId) (items : List Item) (s : State) : State :=
  match findRecord set s with
  | some i => if holdsRecord (fun r => r.state == .staging) s i then takeStage i items s else countAnomaly s
  | none =>
    if closedAs set .noRoom s then s
    else if closedAs set .expired s then countAnomaly s
    else
      match emptyPos s with
      | some i => takeStage i items (putRecord i (some (newRecord set [] false)) s)
      | none => addClosed set .noRoom s

/-! ### The vote (R32 to R35, R47) -/

/-- Checks 2 to 8 of R32, in order, on a STAGING record. -/
def voteChecks (s : State) (r : SetRecord) (count : Nat) (epoch : NetTime) : Verdict :=
  let lead := sdiff epoch s.time.now
  if r.short then .refused .noRoom
  else if r.invalid then .refused .badItem
  else if r.items.length ≠ count then .refused .incomplete
  else if s.time.lock ≠ .locked then .refused .notLocked
  else if lead < bitMicros s.ctl.rate Config.voteLeadBits then .refused .late
  else if Config.farLimit < lead then .refused .far
  else if (List.finRange 16).any (fun c => r.items.any (onChannel c) && s.part.claims[c].isSome) then
    .refused .conflict
  else .ready

/-- The reason of check 1 when there is no record for the set id (R32). -/
def noRecordReason (set : SetId) (s : State) : RefuseReason :=
  if closedAs set .noRoom s then .noRoom else .unknownSet

/-- The verdict on the record found at a position (R32). -/
def voteVerdict (found : Option (Fin 4)) (set : SetId) (count : Nat) (epoch : NetTime) (s : State) : Verdict :=
  match found with
  | some i =>
    match s.part.table[i] with
    | some r => if r.state = .staging then voteChecks s r count epoch else .refused .unknownSet
    | none => .refused (noRecordReason set s)
  | none => .refused (noRecordReason set s)

/-- The record after a READY vote (R33, R47). -/
def votedRecord (r : SetRecord) (count : Nat) (epoch : NetTime) (windowEnd : Option Instant) : SetRecord :=
  { r with state := .voted, epoch := some epoch, expected := some count, windowEnd := windowEnd, timer := windowEnd }

/-- The effect of a vote on the record found: READY makes it VOTED with its channels claimed (R33), a refusal frees it
when it was STAGING (R34), a record in another state is left and counted (R32). The decision timer counts from
`windowEnd`, which a self vote has not (R36, R47). -/
def castVote (found : Option (Fin 4)) (set : SetId) (count : Nat) (epoch : NetTime) (windowEnd : Option Instant)
    (s : State) : State :=
  match found with
  | some i =>
    match s.part.table[i] with
    | some r =>
      if r.state = .staging then
        if voteVerdict found set count epoch s = .ready then
          claimItems set r.items (putRecord i (some (votedRecord r count epoch windowEnd)) s)
        else freeRecord i s
      else countAnomaly s
    | none => s
  | none => s

/-- The entry of a CALL that names this station, with its position k (R32). -/
def callEntryFor (own : Station) : Nat → List CallEntry → Option (Nat × Nat)
  | _, [] => none
  | k, e :: rest => if e.station = own then some (k, e.count.toNat) else callEntryFor own (k + 1) rest

/-- Hand a REPLY to the Line Controller with its slot start (R35, R124). -/
def handReply (f : Frame) (start : Instant) (s : State) : State :=
  s.setLine { s.line with replies := s.line.replies ++ [{ frame := f, start := start }] }

/-- The end of the reply window of a CALL whose last character ends now (R33, R64, R123). -/
def windowEndAt (s : State) (n : Nat) : Instant :=
  s.clock.osc + bits s (Config.windowDelayBits + Config.slotBits * n)

/-- The vote on a CALL that names this station at position k with an item count, and its REPLY (R32 to R35). -/
def callVote (set : SetId) (epoch : NetTime) (n k count : Nat) (s : State) : State :=
  let found := findRecord set s
  let verdict := voteVerdict found set count epoch s
  let s₁ := castVote found set count epoch (some (windowEndAt s n)) s
  handReply (ownFrame s₁ (some set.proposer) (.reply set verdict (BitVec.ofNat 8 (freeSlots s₁)))) (windowEndAt s k) s₁

/-! ### Waiting for the decision (R36, R37) -/

/-- An INQUIRE attempt of the record at a position: the count rises, the INQUIRE is offered unless the last one is still
queued, and the timer runs on while attempts are left (R37). -/
def inquire (i : Fin 4) (s : State) : State :=
  match s.part.table[i] with
  | some r =>
    let n := r.inquiries + 1
    let r' := { r with inquiries := n, timer := if n < Config.inquiryLimit then some s.clock.osc else none }
    let s₁ := putRecord i (some r') s
    if s.line.queue.any (isInquireFor r.set) then s₁
    else offer (ownFrame s (some r.set.proposer) (.inquire r.set)) s₁
  | none => s

/-- The wait timer of a record has counted n bit times. -/
def timerReached (s : State) (r : SetRecord) (n : Nat) : Bool :=
  match r.timer with
  | some t => decide (t + bits s n ≤ s.clock.osc)
  | none => false

/-- The epoch of a record has been reached or passed by the signed difference of R80 (R42, R43), whichever way network time came
there: R45 is silent on a step back of nearly half the circle. DESIGN CHOICE (log 42). -/
def epochReached (s : State) (r : SetRecord) : Bool :=
  match r.epoch with
  | some e => reached s.time.now e
  | none => false

/-- The record waits for a decision: VOTED or IN_DOUBT. -/
def awaitsDecision (r : SetRecord) : Bool := r.state == .voted || r.state == .inDoubt

/-! ### The epoch (R42, R43, R48) -/

/-- The record at a position is ARMED and its epoch has been reached (R42). -/
def applyDue (s : State) (i : Fin 4) : Bool := holdsRecord (fun r => r.state == .armed && epochReached s r) s i

/-- The record at a position awaits a decision for another station's set, and its epoch has been reached (R43). -/
def expiryDue (s : State) (i : Fin 4) : Bool :=
  holdsRecord (fun r => awaitsDecision r && !r.self && epochReached s r) s i

/-- The self record at a position is VOTED and its epoch has been reached (R48). -/
def selfExpiryDue (s : State) (i : Fin 4) : Bool :=
  holdsRecord (fun r => awaitsDecision r && r.self && epochReached s r) s i

/-- The ARMED record at a position is applied: handed over, freed, SET_APPLIED (R42). -/
def applyRecord (i : Fin 4) (s : State) : State :=
  match s.part.table[i] with
  | some r =>
    match r.epoch with
    | some e => raise .setApplied (putRecord i none (handover r.set e r.items s))
    | none => s
  | none => s

/-- The record at a position expires: freed, with an EXPIRED entry and SET_DROPPED (R43). -/
def expireRecord (i : Fin 4) (s : State) : State :=
  match s.part.table[i] with
  | some r => raise .setDropped (addClosed r.set .expired (freeRecord i s))
  | none => s

/-- The VOTED self record at a position is freed at its epoch, with SET_DROPPED and no closed entry (R48). -/
def expireSelf (i : Fin 4) (s : State) : State := raise .setDropped (freeRecord i s)

/-! ### Decisions (R38 to R41) -/

/-- The record at a position becomes ARMED: its timer stops and its queued INQUIRE is withdrawn (R38). -/
def armRecord (i : Fin 4) (s : State) : State :=
  match s.part.table[i] with
  | some r => withdrawFrame (isInquireFor r.set) (putRecord i (some { r with state := .armed, timer := none }) s)
  | none => s

/-- A commit that finds no record: an EXPIRED entry whose flag is clear is answered with one MISSED, and the flag is set
when the queue accepts it (R41). -/
def answerMissed (set : SetId) (s : State) : State :=
  if s.part.closed.any (fun e => e.set == set && e.kind == .expired && !e.missedSent) then
    if queueHasRoom s then
      let closed := s.part.closed.map fun e =>
        if e.set = set ∧ e.kind = .expired then { e with missedSent := true } else e
      (offer (ownFrame s (some set.proposer) (.missed set)) s).setPart { s.part with closed := closed }
    else s
  else s

/-- A COMMIT, or a DECISION(COMMITTED) when `quiet`: the record becomes ARMED before its epoch; at or after it the
record has expired and the frame is answered with MISSED; a STAGING or ARMED record is left and counted, but an ARMED
one is not counted for a DECISION (R38, R40, R41). DEDUCED (log 27). At an epoch exactly 2^47 microseconds away, which network time
has not reached though epoch - now is not positive, the record becomes ARMED. DESIGN CHOICE (log 41). -/
def commitEffect (quiet : Bool) (set : SetId) (s : State) : State :=
  match findRecord set s with
  | some i =>
    if expiryDue s i then answerMissed set (expireRecord i s)
    else if holdsRecord awaitsDecision s i then armRecord i s
    else if quiet && holdsRecord (fun r => r.state == .armed) s i then s
    else countAnomaly s
  | none => answerMissed set s

/-- An ABORT: a record in STAGING, VOTED or IN_DOUBT is freed, with SET_DROPPED unless it was STAGING; an ARMED record
stays and is counted (R39). -/
def abortEffect (set : SetId) (s : State) : State :=
  match findRecord set s with
  | some i =>
    if holdsRecord awaitsDecision s i then raise .setDropped (freeRecord i s)
    else if holdsRecord (fun r => r.state == .staging) s i then freeRecord i s
    else countAnomaly s
  | none => s

/-- A DECISION(ABORTED) or DECISION(UNKNOWN) (R40). -/
def refuseDecisionEffect (set : SetId) (s : State) : State :=
  match findRecord set s with
  | some i =>
    if holdsRecord awaitsDecision s i then raise .setDropped (freeRecord i s) else countAnomaly s
  | none => s

/-! ### The self record (R46 to R48) -/

/-- The position of the self record of a set that is still undecided. DESIGN CHOICE (log 24). -/
def findSelf (set : SetId) (s : State) : Option (Fin 4) :=
  positions.find? (holdsRecord (fun r => r.set == set && r.self && r.state != .armed) s)

/-- Create the self record with the draft's items for this station (R46). The table never holds two records with one set id
(R24): while an older record still holds this one, none is created. DESIGN CHOICE (log 24). -/
def createSelf (set : SetId) (items : List Item) (s : State) : State :=
  match findRecord set s, emptyPos s with
  | none, some i => putRecord i (some (newRecord set items true)) s
  | _, _ => s

/-- The verdict of the self vote (R47). -/
def selfVerdict (set : SetId) (count : Nat) (epoch : NetTime) (s : State) : Verdict :=
  voteVerdict (findSelf set s) set count epoch s

/-- The effect of the self vote on the self record (R47). -/
def castSelfVote (set : SetId) (count : Nat) (epoch : NetTime) (s : State) : State :=
  castVote (findSelf set s) set count epoch none s

/-- The VOTED self record becomes ARMED (R48). -/
def armSelf (set : SetId) (s : State) : State :=
  match findSelf set s with
  | some i => if holdsRecord (fun r => r.state == .voted) s i then armRecord i s else s
  | none => s

/-- The self record is freed at its proposer's request, with SET_DROPPED if it was VOTED (R48). -/
def freeSelf (set : SetId) (s : State) : State :=
  match findSelf set s with
  | some i => raiseIf (holdsRecord (fun r => r.state == .voted) s i) .setDropped (freeRecord i s)
  | none => s

/-! ### Rejoin (R50) -/

/-- The purge on a rejoin of station p: its records and its recently-closed entries go (R50). -/
def purgeProposer (p : Station) (s : State) : State :=
  let s₁ := freeMatching (fun r => r.set.proposer == p) s
  s₁.setPart { s₁.part with closed := s₁.part.closed.filter fun e => e.set.proposer != p }

end Sys2Proof.Machine
end

