-- ==== Sys2Proof/Machine/Proposing.lean ====
section
/-! DEFINITION. The Proposer Unit: drafts, staging, the call, the decision, the log (Chapter 3). -/

namespace Sys2Proof.Machine

/-- Replace the proposer's activity. -/
def setActivity (a : Activity) (s : State) : State := s.setProp { s.prop with activity := a }

/-! ### Drafts (R54, R57) -/

/-- The draft holds an item with this target and channel. -/
def sameSlot (target : Station) (it : Item) (d : DraftItem) : Bool :=
  d.target == target && d.item.channel == it.channel

/-- The other targets of draft items: each station other than this one, once, in list order (R54). -/
def otherTargets (own : Station) (items : List DraftItem) : List Station :=
  ((items.map (·.target)).filter (· != own)).dedup

/-- The draft order: by target, then by channel (R54). -/
def draftBefore (a b : DraftItem) : Bool :=
  decide (a.target.val < b.target.val) ||
    (a.target == b.target && decide (a.item.channel.toNat < b.item.channel.toNat))

/-- Insert an item at its place in target and channel order (R57). -/
def insertDraft (d : DraftItem) : List DraftItem → List DraftItem
  | [] => [d]
  | x :: rest => if draftBefore x d then x :: insertDraft d rest else d :: x :: rest

/-- Check 3 of ADD ITEM: there is room for the item (R57). -/
def draftHasRoom (own target : Station) (it : Item) (items : List DraftItem) : Bool :=
  items.any (sameSlot target it) ||
    (decide (items.length < Config.draftLimit) &&
      (target == own || items.any (fun d => d.target == target) ||
        decide ((otherTargets own items).length < Config.otherTargetLimit)))

/-- The draft's items after an accepted ADD ITEM (R57). -/
def addToDraft (target : Station) (it : Item) (items : List DraftItem) : List DraftItem :=
  let d : DraftItem := { target := target, item := it }
  if items.any (sameSlot target it) then items.map fun x => if sameSlot target it x then d else x
  else insertDraft d items

/-- The draft's items for this station (R46). -/
def selfItems (own : Station) (items : List DraftItem) : List Item :=
  (items.filter fun d => d.target == own).map (·.item)

/-- The draft's items for other targets, in draft order (R55). -/
def remoteItems (own : Station) (items : List DraftItem) : List DraftItem :=
  items.filter fun d => d.target != own

/-- The number of items for a target. -/
def countFor (target : Station) (items : List DraftItem) : Nat := items.countP fun d => d.target == target

/-- The target list of a proposal: each other target with its item count, PENDING (R59). -/
def targetEntries (own : Station) (items : List DraftItem) : List TargetEntry :=
  (otherTargets own items).map fun t => { station := t, count := countFor t items, result := .pending }

/-! ### Closing and the decision log (R72, R73) -/

/-- Add an entry to the decision log (R73). -/
def addLog (entry : LogEntry) (log : List LogEntry) : List LogEntry :=
  let kept := log.filter fun e => e.set != entry.set
  let room := if kept.length < Config.logLimit then kept else kept.drop 1
  room ++ [entry]

/-- A proposal closes: log entry, OUTCOME, IDLE; `abort` is absent for COMMITTED (R72). -/
def closeWith (entry : LogEntry) (s : State) : State :=
  raise .outcome (s.setProp { s.prop with activity := .idle, log := addLog entry s.prop.log })

/-- The log entry of a proposal as it stands at the close (R72). -/
def closingEntry (p : Proposal) (abort : Option AbortReason) : LogEntry :=
  { set := p.set, epoch := p.epoch, abort := abort, targets := p.targets,
    selfResult := if p.selfIncluded then some p.selfResult else none }

/-- The open proposal closes with an outcome (R72). -/
def closeProposal (abort : Option AbortReason) (s : State) : State :=
  match s.prop.activity with
  | .active p => closeWith (closingEntry p abort) s
  | _ => s

/-! ### Aborting (R62, R68) -/

/-- The proposal's outstanding frame is withdrawn from the queue, or dropped while it waits for room (R62). -/
def withdrawOutstanding (s : State) : State :=
  withdrawFrame isProposalFrame (mapProposal (fun p => { p with outstanding := none }) s)

/-- The open proposal enters ABORTING with a reason: the outstanding frame goes, ABORT is enqueued, the self record is
freed (R68). -/
def abortProposal (reason : AbortReason) (s : State) : State :=
  match s.prop.activity with
  | .active p =>
    let s₁ := withdrawOutstanding s
    let s₂ := mapProposal (fun q => { q with phase := .aborting, abortReason := some reason }) s₁
    freeSelf p.set (offerProposalFrame (ownFrame s none (.abort p.set reason)) s₂)
  | _ => s

/-- The open proposal closes ABORTED with a reason at once: its outstanding frame is withdrawn, no ABORT is sent, the
self record is freed (R66, R67, R68). -/
def closeAborted (reason : AbortReason) (s : State) : State :=
  match s.prop.activity with
  | .active p => freeSelf p.set (closeProposal (some reason) (withdrawOutstanding s))
  | _ => s

/-! ### Staging and calling (R61, R63) -/

/-- The items of the next STAGE frame: up to four, all for the target of the first (R61). -/
def nextStageItems (p : Proposal) : List DraftItem :=
  match p.items.drop p.nextStage with
  | [] => []
  | d :: rest => (d :: rest.takeWhile fun x => x.target == d.target).take 4

/-- Enqueue the next STAGE frame (R61). -/
def enqueueStage (s : State) : State :=
  match s.prop.activity with
  | .active p =>
    match nextStageItems p with
    | [] => s
    | d :: rest =>
      offerProposalFrame (ownFrame s (some d.target) (.stage p.set ((d :: rest).map (·.item)))) s
  | _ => s

/-- Every other target has member state PRESENT (R63 check 1). -/
def targetsPresent (s : State) (targets : List TargetEntry) : Bool :=
  targets.all fun t => s.memb.entries[t.station].state == .present

/-- The lead of an epoch is at least n bit times (R58, R63, R66). -/
def leadAtLeast (s : State) (epoch : NetTime) (n : Nat) : Bool :=
  decide (bitMicros s.ctl.rate n ≤ sdiff epoch s.time.now)

/-- The target list that a CALL carries (R63). -/
def callList (targets : List TargetEntry) : List CallEntry :=
  targets.map fun t => { station := t.station, count := BitVec.ofNat 8 t.count }

/-- Enqueue the CALL and enter CALLING (R63 check 4). -/
def enqueueCall (s : State) : State :=
  match s.prop.activity with
  | .active p =>
    offerProposalFrame (ownFrame s none (.call p.set p.epoch (callList p.targets)))
      (mapProposal (fun q => { q with phase := .calling }) s)
  | _ => s

/-- Checks 3 and 4 before the CALL (R63). -/
def leadThenCall (s : State) : State :=
  match s.prop.activity with
  | .active p => if leadAtLeast s p.epoch Config.submitLeadBits then enqueueCall s else abortProposal .late s
  | _ => s

/-- The per-target result that a verdict sets (R63, R65). -/
def resultOf : Verdict → TargetResult
  | .ready => .ready
  | .refused reason => .refused reason

/-- The checks when the last STAGE has been sent: targets, self vote, lead, CALL (R63). The order of R63 holds at and near
the epoch too, so a report taken there can end in TARGET_ABSENT or SELF_REFUSED where R69 says LATE. DESIGN CHOICE (log 40). A check
that fails ends the phase with its own reason, so a WITHDRAW that comes next finds ABORTING and is refused, where R70 says that both
orders end in WITHDRAWN. DESIGN CHOICE (log 43). -/
def preCallChecks (s : State) : State :=
  match s.prop.activity with
  | .active p =>
    if !targetsPresent s p.targets then abortProposal .targetAbsent s
    else if p.selfIncluded then
      let verdict := selfVerdict p.set p.selfCount p.epoch s
      let s₁ := mapProposal (fun q => { q with selfResult := resultOf verdict })
        (castSelfVote p.set p.selfCount p.epoch s)
      if verdict = .ready then leadThenCall s₁ else abortProposal .selfRefused s₁
    else leadThenCall s
  | _ => s

/-! ### Sent reports (R61, R64, R67, R68) -/

/-- A STAGE has been sent: the next STAGE, or the checks before the CALL (R61). DEDUCED (log 25). -/
def stageSent (s : State) : State :=
  match s.prop.activity with
  | .active p =>
    let p' := { p with nextStage := p.nextStage + (nextStageItems p).length, outstanding := none }
    let s₁ := setActivity (.active p') s
    if p'.nextStage < p'.items.length then enqueueStage s₁ else preCallChecks s₁
  | _ => s

/-- The CALL has been sent: VOTING, with the reply window (R64). -/
def callSent (s : State) : State :=
  mapProposal (fun p =>
    { p with
      phase := .voting
      callSent := true
      outstanding := none
      windowStart := some (windowEndAt s 0)
      windowEnd := some (windowEndAt s p.targets.length) }) s

/-- The COMMIT has been sent: the proposal closes COMMITTED and its self record becomes ARMED (R67, R48), at an epoch exactly 2^47
microseconds away too. DESIGN CHOICE (log 41). -/
def commitSent (s : State) : State :=
  match s.prop.activity with
  | .active p => armSelf p.set (closeProposal none s)
  | _ => s

/-- The reason stored on entry to ABORTING (R68). It is present in that phase (R55). DESIGN CHOICE (log 29). -/
def storedReason (p : Proposal) : AbortReason := p.abortReason.getD .late

/-- The ABORT has been sent: the proposal closes ABORTED with the stored reason (R68). -/
def abortSent (s : State) : State :=
  match s.prop.activity with
  | .active p => closeProposal (some (storedReason p)) s
  | _ => s

/-! ### The epoch and loss of lock (R67 to R69, R71) -/

/-- Network time has reached the epoch of the open proposal in a phase that the epoch ends (R67 to R69), by R80 alone: after a step
back of nearly half the circle too, though R67 leaves COMMITTING as it is at a step back. DESIGN CHOICE (log 42). -/
def proposerEpochDue (s : State) : Bool :=
  match s.prop.activity with
  | .active p =>
    reached s.time.now p.epoch &&
      match p.phase with
      | .staging => true
      | .calling => true
      | .voting => false
      | .committing => true
      | .aborting => p.callSent
  | _ => false

/-- What the epoch does to the open proposal (R67 to R69). -/
def meetProposerEpoch (s : State) : State :=
  if proposerEpochDue s then
    match s.prop.activity with
    | .active p =>
      match p.phase with
      | .staging => abortProposal .late s
      | .calling => abortProposal .late s
      | .committing => closeAborted .late s
      | .aborting => closeAborted (storedReason p) s
      | .voting => s
    | _ => s
  else s

/-- The Proposer Unit's reaction to UNLOCKED (R71). -/
def proposerLosesLock (s : State) : State :=
  match s.prop.activity with
  | .active p =>
    match p.phase with
    | .staging => abortProposal .lockLost s
    | .calling => abortProposal .lockLost s
    | .committing => abortProposal .lockLost s
    | .voting => setActivity (.active { p with lockLost := true }) s
    | .aborting => s
  | _ => s

/-! ### The window end (R66) -/

/-- Every result still PENDING becomes NO_REPLY (R66). -/
def settleResults (targets : List TargetEntry) : List TargetEntry :=
  targets.map fun t => if t.result = .pending then { t with result := .noReply } else t

/-- The result is a refusal. -/
def isRefused (r : TargetResult) : Bool :=
  match r with
  | .refused _ => true
  | _ => false

/-- The proposal commits at its window end (R66). -/
def commits (s : State) (p : Proposal) (targets : List TargetEntry) : Bool :=
  !p.lockLost && targets.all (fun t => t.result == .ready) && leadAtLeast s p.epoch Config.commitLeadBits

/-- The first reason that applies when it aborts (R66). -/
def windowAbortReason (p : Proposal) (targets : List TargetEntry) : AbortReason :=
  if p.lockLost then .lockLost
  else if targets.any (fun t => isRefused t.result) then .refused
  else if targets.any (fun t => t.result == .noReply) then .noReply
  else .late

/-- The decision at the window end (R66). -/
def decideVote (s : State) : State :=
  match s.prop.activity with
  | .active p =>
    let targets := settleResults p.targets
    let s₁ := setActivity (.active { p with targets := targets }) s
    if commits s p targets then
      offerProposalFrame (ownFrame s none (.commit p.set)) (mapProposal (fun q => { q with phase := .committing }) s₁)
    else if 0 < sdiff p.epoch s.time.now then abortProposal (windowAbortReason p targets) s₁
    else closeAborted (windowAbortReason p targets) s₁
  | _ => s

/-- The reply window of the open proposal has ended and the proposal is VOTING (R66). -/
def windowDue (s : State) : Bool :=
  match s.prop.activity with
  | .active p =>
    p.phase == .voting &&
      match p.windowEnd with
      | some t => decide (t ≤ s.clock.osc)
      | none => false
  | _ => false

/-! ### REPLY, INQUIRE and MISSED (R65, R75, R76) -/

/-- The position of a station in a target list. -/
def targetPos (st : Station) (targets : List TargetEntry) : Option Nat :=
  targets.findIdx? fun t => t.station == st

/-- The start edge of the frame just received lies in slot k of the window (R65). -/
def inSlot (s : State) (p : Proposal) (k : Nat) : Bool :=
  match s.line.frameStart, p.windowStart with
  | some t, some w =>
    decide (w + bits s (Config.slotBits * k) ≤ t) && decide (t < w + bits s (Config.slotBits * (k + 1)))
  | _, _ => false

/-- The position at which the Proposer Unit takes a REPLY, when it takes it (R65). -/
def replyTaken (s : State) (src : Station) (set : SetId) : Option Nat :=
  match s.prop.activity with
  | .active p =>
    match targetPos src p.targets with
    | some k =>
      if p.phase = .voting ∧ p.set = set ∧ inSlot s p k = true ∧
          (p.targets[k]?.map (·.result)) = some .pending then some k
      else none
    | none => none
  | _ => none

/-- A REPLY addressed to this station: its target's result is set, or it is ignored and counted (R65). -/
def replyEffect (src : Station) (set : SetId) (verdict : Verdict) (s : State) : State :=
  match replyTaken s src set with
  | some k =>
    mapProposal (fun p => { p with targets := p.targets.modify k fun t => { t with result := resultOf verdict } }) s
  | none => countAnomaly s

/-- The open proposal has this set id. -/
def isOpenSet (set : SetId) (s : State) : Bool :=
  match s.prop.activity with
  | .active p => p.set == set
  | _ => false

/-- The outcome that the decision log gives for a set of this station (R75). -/
def loggedOutcome (set : SetId) (log : List LogEntry) : DecisionOutcome :=
  match log.find? (fun e => e.set == set) with
  | some e => if e.abort.isSome then .aborted else .committed
  | none => .unknown

/-- An INQUIRE addressed to this station (R75). -/
def inquireEffect (src : Station) (set : SetId) (s : State) : State :=
  if set.proposer ≠ s.ctl.number then countAnomaly s
  else if isOpenSet set s then s
  else offer (ownFrame s (some src) (.decision set (loggedOutcome set s.prop.log))) s

/-- The result of a station in a log entry. -/
def loggedResult (src : Station) (e : LogEntry) : Option TargetResult :=
  (e.targets.find? fun t => t.station == src).map (·.result)

/-- Mark a station's READY result MISSED in the entry of a set (R76). -/
def markMissed (src : Station) (set : SetId) (log : List LogEntry) : List LogEntry :=
  log.map fun e =>
    if e.set = set then
      { e with targets := e.targets.map fun t => if t.station = src then { t with result := .missed } else t }
    else e

/-- A MISSED addressed to this station (R76). -/
def missedEffect (src : Station) (set : SetId) (s : State) : State :=
  if set.proposer ≠ s.ctl.number then countAnomaly s
  else
    match s.prop.log.find? (fun e => e.set == set) with
    | some e =>
      match loggedResult src e with
      | some .ready => raise .lateReport (s.setProp { s.prop with log := markMissed src set s.prop.log })
      | some .missed => s
      | _ => countAnomaly s
    | none => countAnomaly s

/-! ### SUBMIT (R58 to R60) -/

/-- Check 4: every other target PRESENT and reporting LOCKED (R58). -/
def targetsLocked (s : State) (targets : List TargetEntry) : Bool :=
  targets.all fun t =>
    s.memb.entries[t.station].state == .present && s.memb.entries[t.station].lock == some .locked

/-- Check 5 for another target: its reported free slots are at least its item count (R58). -/
def targetHasRoom (s : State) (t : TargetEntry) : Bool :=
  match s.memb.entries[t.station].slots with
  | some n => decide (t.count ≤ n)
  | none => false

/-- Check 5 for this station (R58). -/
def selfHasRoom (s : State) (count : Nat) : Bool :=
  decide (count = 0) || (decide (1 ≤ freeRecords s) && decide (count ≤ freeSlots s))

/-- The checks of SUBMIT in DRAFTING, in order (R58). -/
def submitStatus (s : State) (d : Draft) : Status :=
  let targets := targetEntries s.ctl.number d.items
  if s.ctl.state ≠ .member ∨ s.memb.announced = false then .badState
  else if s.time.lock ≠ .locked then .notLocked
  else if d.items = [] then .badArgument
  else if !targetsLocked s targets then .targetAbsent
  else if !(targets.all (targetHasRoom s) && selfHasRoom s (selfItems s.ctl.number d.items).length) then .noRoom
  else if !leadAtLeast s d.epoch Config.submitLeadBits then .late
  else if Config.farLimit < sdiff d.epoch s.time.now then .far
  else .ok

/-- The sequence counter advances by one, from 255 to 1 (R59). -/
def nextSequence (n : BitVec 8) : BitVec 8 := if n = 255 then 1 else n + 1

/-- The proposal record built from a draft (R59 step 4). -/
def proposalOf (own : Station) (set : SetId) (d : Draft) : Proposal :=
  { set := set, epoch := d.epoch, phase := .staging, items := remoteItems own d.items,
    targets := targetEntries own d.items, selfIncluded := !(selfItems own d.items).isEmpty,
    selfCount := (selfItems own d.items).length, selfResult := .pending, nextStage := 0, outstanding := none,
    callSent := false, windowStart := none, windowEnd := none, lockLost := false, abortReason := none }

/-- The log entry of a self-only set (R60, R72). -/
def selfOnlyEntry (set : SetId) (epoch : NetTime) (verdict : Verdict) : LogEntry :=
  { set := set, epoch := epoch, abort := if verdict = .ready then none else some .selfRefused, targets := [],
    selfResult := some (resultOf verdict) }

/-- A self-only set is decided by its self vote within SUBMIT (R60). -/
def decideSelfOnly (set : SetId) (count : Nat) (epoch : NetTime) (s : State) : State :=
  let verdict := selfVerdict set count epoch s
  let s₁ := castSelfVote set count epoch s
  closeWith (selfOnlyEntry set epoch verdict) (if verdict = .ready then armSelf set s₁ else s₁)

/-- The acceptance of a SUBMIT (R59). -/
def acceptSubmit (d : Draft) (s : State) : State :=
  let own := s.ctl.number
  let set : SetId := { proposer := own, seq := s.prop.sequence }
  let mine := selfItems own d.items
  let s₁ := s.setProp { s.prop with sequence := nextSequence s.prop.sequence }
  let s₂ := if mine.isEmpty then s₁ else createSelf set mine s₁
  if (remoteItems own d.items).isEmpty then decideSelfOnly set mine.length d.epoch s₂
  else enqueueStage (setActivity (.active (proposalOf own set d)) s₂)

/-- The Proposer Unit at reset (R77). -/
def clearProposer (s : State) : State := s.setProp Proposer.initial

end Sys2Proof.Machine
end

