-- ==== Sys2Proof/Machine/Timekeeping.lean ====
section
/-! DEFINITION. The Time Unit: microseconds, slews and steps, lock changes and their reactions (Chapter 5), with entry to MEMBER and hearing the line (Chapter 6). -/

namespace Sys2Proof.Machine

/-! ### One microsecond (R79, R81, R84) -/

/-- The pieces of a slew already made (R84). -/
def piecesMade (sl : Slew) : Nat := sl.offset.natAbs - sl.remaining.natAbs

/-- The progress at which the next piece of a slew is made (R84). -/
def nextPiecePoint (sl : Slew) : Nat := (piecesMade sl + 1) * Config.slewSpan / sl.offset.natAbs

/-- The next microsecond of a slew makes a piece (R84). -/
def pieceDue (sl : Slew) : Bool := decide (nextPiecePoint sl ≤ sl.progress + 1)

/-- A microsecond timer counts the advance of network time up to its limit (R81). DEDUCED (log 9). -/
def runTimer (limit adv : Nat) (t : Option Nat) : Option Nat := t.map fun n => min limit (n + adv)

/-- One microsecond of the local oscillator in which network time advances by `adv`, the slew becoming `slew`. Every
microsecond timer counts that advance (R81). -/
def passMicro (adv : Nat) (slew : Option Slew) (s : State) : State :=
  let time :=
    { s.time with
      now := s.time.now + BitVec.ofNat 48 adv
      slew := slew
      supervision := s.time.supervision.map (· + adv)
      syncTimer := runTimer Config.syncPeriod adv s.time.syncTimer
      selfSource := runTimer Config.selfSourceAfter adv s.time.selfSource }
  let memb :=
    { s.memb with
      interval := runTimer Config.memberInterval adv s.memb.interval
      presence := runTimer Config.presencePeriod adv s.memb.presence }
  let line := { s.line with mute := runTimer Config.mutePeriod adv s.line.mute }
  (((s.setTime time).setMemb memb).setLine line).setClock { s.clock with microDue := false }

/-- A microsecond in which no slew piece is made: network time advances by one (R79, R84). -/
def plainMicro (s : State) : State :=
  passMicro 1 (s.time.slew.map fun sl => { sl with progress := sl.progress + 1 }) s

/-- A slew after one more microsecond in which a piece is made; absent after the last (R84). -/
def afterPiece (sl : Slew) : Option Slew :=
  let left := sl.remaining - sl.offset.sign
  if left = 0 then none else some { sl with remaining := left, progress := sl.progress + 1 }

/-- A microsecond in which a slew piece is made: network time advances by two, or holds (R84). -/
def pieceMicro (sl : Slew) (s : State) : State :=
  passMicro (if 0 < sl.offset then 2 else 0) (afterPiece sl) s

/-- A slew piece is due in the microsecond that ends now (R84). -/
def slewPieceDue (s : State) : Option Slew :=
  if s.clock.microDue then s.time.slew.filter pieceDue else none

/-! ### Entry to MEMBER (R106, R108, R110, R159) -/

/-- The station becomes MEMBER: the membership timers start and the join announcement is offered (R159). -/
def enterMember (s : State) : State :=
  offerPresence
    ((s.setCtl { s.ctl with state := .member }).setMemb
      { s.memb with interval := some 0, presence := some 0, announced := false })

/-! ### Lock changes (R91) -/

/-- The self-source timer runs in this station state while UNLOCKED: JOINING or MEMBER (R90). -/
def canSelfSource (s : State) : Bool := s.ctl.state == .joining || s.ctl.state == .member

/-- The Time Unit's own part of UNLOCKED (R88, R90). -/
def timeLosesLock (s : State) : State :=
  s.setTime { s.time with supervision := none, selfSource := if canSelfSource s then some 0 else none }

/-- The Participant Unit's reaction to UNLOCKED: every record is freed (R49). -/
def participantLosesLock (s : State) : State := freeMatching (fun _ => true) s

/-- The reactions of the blocks when lock becomes UNLOCKED (R91): outputs, participant, proposer. DEDUCED (log 37). -/
def lockLostReactions (s : State) : State :=
  proposerLosesLock (participantLosesLock (outputsLoseLock (timeLosesLock s)))

/-- The reaction of the Station Controller when lock becomes LOCKED: JOINING ends (R159). -/
def lockedReactions (s : State) : State := if s.ctl.state = .joining then enterMember s else s

/-- A change of lock state: LOCK is raised, an outstanding SYNC withdrawn when the state leaves LOCKED, and each block
reacts (R91). Nothing when the state does not change. -/
def setLock (l : LockState) (s : State) : State :=
  if s.time.lock = l then s
  else
    let s₁ := raise .lock (s.setTime { s.time with lock := l })
    let s₂ := if s.time.lock = .locked then withdrawSync s₁ else s₁
    match l with
    | .unlocked => lockLostReactions s₂
    | .locked => lockedReactions s₂
    | .acquiring => s₂
    | .holdover => s₂

/-! ### What a step of network time meets (R45, R85) -/

/-- The record at a position meets its epoch, if network time has reached it (R42, R43, R48), be it by a step back so far that the
signed difference of R80 has become 0 or more. DESIGN CHOICE (log 42). -/
def meetRecord (i : Fin 4) (s : State) : State :=
  if applyDue s i then applyRecord i s
  else if expiryDue s i then expireRecord i s
  else if selfExpiryDue s i then expireSelf i s
  else s

/-- The order in which records meet their epochs at a step: fixed when at most one of them expires, else a free order
(R45 leaves it open, and the recently-closed list shows it). DESIGN CHOICE (log 5). -/
def meetingOrder (s : State) : List (Fin 4) :=
  if positions.countP (expiryDue s) ≤ 1 then positions
  else positions.map (Config.recordOrder s.clock.choices)

/-- Every channel whose boundary has been passed completes its swap (R16). -/
def meetSwaps (s : State) : State := (List.finRange 16).foldl (fun t c => completeSwap c t) s

/-- Everything that a step of network time passes over is met at the step (R85). DEDUCED (log 37). What is met is told by the signed
difference of R80 alone, at a step back too. DESIGN CHOICE (log 42). -/
def meetStep (s : State) : State :=
  let s₁ := if positions.countP (expiryDue s) ≤ 1 then s else countChoice s
  meetSwaps ((meetingOrder s).foldl (fun t i => meetRecord i t) (meetProposerEpoch s₁))

/-! ### Taking a SYNC (R83 to R87) -/

/-- The offset of a SYNC: carried time plus trim, less the start-edge sample (R83). -/
def syncOffset (s : State) (carried sample : NetTime) : Int :=
  sdiff (carried + BitVec.ofNat 48 s.time.trim.val) sample

/-- The offset is corrected by a slew, not by a step (R83). -/
def withinSlew (o : Int) : Bool := decide (-Config.slewLimit ≤ o) && decide (o ≤ Config.slewLimit)

/-- A new slew of o microseconds; none for 0 (R84). -/
def newSlew (o : Int) : Option Slew := if o = 0 then none else some { offset := o, remaining := o, progress := 0 }

/-- The correction: a slew, or a step with all that it passes over (R84, R85). R45 leaves every record as it is at a step back; one
so far back that R80 then has the epoch reached meets it here. DESIGN CHOICE (log 42). -/
def correctTime (o : Int) (s : State) : State :=
  if withinSlew o then s.setTime { s.time with slew := newSlew o }
  else
    meetStep (raise .step
      (s.setTime { s.time with now := moveTime s.time.now o, slew := none, lastStep := some o }))

/-- The lock state after a SYNC (R86). -/
def lockAfterSync (l : LockState) (slewed : Bool) : LockState :=
  match l with
  | .unlocked => .acquiring
  | .acquiring => if slewed then .locked else .acquiring
  | .locked => .locked
  | .holdover => .locked

/-- At the end of a SYNC taken the supervision and sync timers restart and the self-source timer stops (R87). -/
def restartSyncTimers (s : State) : State :=
  s.setTime { s.time with supervision := some 0, syncTimer := some 0, selfSource := none }

/-- A SYNC is taken at its end (R83 to R87). -/
def takeSync (carried sample : NetTime) (s : State) : State :=
  let o := syncOffset s carried sample
  setLock (lockAfterSync s.time.lock (withinSlew o)) (withdrawSync (restartSyncTimers (correctTime o s)))

/-! ### Hearing the line (R102 to R105) -/

/-- Write a member entry. -/
def putMember (st : Station) (e : MemberEntry) (s : State) : State :=
  s.setMemb { s.memb with entries := s.memb.entries.set st.val e }

/-- A valid frame from another station is heard (R102). -/
def hear (src : Station) (s : State) : State :=
  let e := s.memb.entries[src]
  raiseIf (e.state == .absent || e.state == .silent) .member
    (putMember src { e with state := .present, missed := 0, heard := true, lastHeard := some s.time.now } s)

/-- The reported fields of a PRESENCE (R103). -/
def reportPresence (src : Station) (lock : LockState) (records slots : Nat) (s : State) : State :=
  putMember src { s.memb.entries[src] with lock := some lock, records := some records, slots := some slots } s

/-- The free-slot figure of a REPLY (R104). -/
def reportSlots (src : Station) (slots : Nat) (s : State) : State :=
  putMember src { s.memb.entries[src] with slots := some slots } s

end Sys2Proof.Machine
end

