-- ==== Sys2Proof/Machine/Lifecycle.lean ====
section
/-! DEFINITION. The station lifecycle: hard reset, START, RESTART, entry to FAULTED (Chapter 10 and each block's values after reset). -/

namespace Sys2Proof.Machine

/-! ### Straps (R154) -/

/-- The station number on SA4 to SA0, SAn at place n and a HIGH pin read as 1 (R154). -/
def strapNumber (sa : Vector Level 5) : Station :=
  Fin.ofNat 32 (sa[0].code + 2 * sa[1].code + 4 * sa[2].code + 8 * sa[3].code + 16 * sa[4].code)

/-- The line rate on LR1 and LR0, LR1 the more significant (R154). -/
def strapRate (p : ModePins) : LineRate :=
  match p.lr1, p.lr0 with
  | .low, .low => .k250
  | .low, .high => .k500
  | .high, .low => .m1
  | .high, .high => .m2

/-- The auto-start flag is set when AUTO is HIGH (R154). -/
def strapAuto (p : ModePins) : Bool := p.auto == .high

/-! ### Hard reset, START, RESTART -/

/-- The transition to JOINING: time runs from 0, the line is observed from GAP, and the first sample of each capture input,
taken in this microsecond, becomes its reference level (R97, R114, R145, R158). -/
def startStation (s : State) : State :=
  let s₁ := s.setCtl { s.ctl with state := .joining }
  let s₂ := s₁.setTime
    { TimeUnit.initial s.time.trim with running := true, syncTimer := some 0, selfSource := some 0 }
  let s₃ := s₂.setCapt
    { s.capt with refs := s.capt.pins.map some, sampled := Vector.replicate 8 (some (microsecond s)) }
  observe (.gap 0) s₃

/-- Every block at its hard-reset values, with the Station Controller as given (R155). The capture pins, the oscillator
count and the model's count of choices are not the part's to reset; a transaction in progress is spoiled (R168). -/
def hardResetStation (ctl : StationController) (s : State) : State :=
  { clock := { s.clock with microDue := false }
    ctl := ctl
    chans := Vector.replicate 16 ChannelRecord.initial
    part := Participant.initial
    prop := Proposer.initial
    time := TimeUnit.initial 0
    memb := Membership.initial ctl.number
    line := LineController.initial
    capt := Capture.initial (Vector.replicate 8 .none) s.capt.pins
    port := { stored := Response.initial, transaction := s.port.transaction.map fun _ => .spoiled }
    notes := NoticeUnit.initial
    pending := s.pending }

/-- HARD_RESET begins: every block takes its hard-reset values and the straps keep theirs; while it lasts the outputs are
released and no command is taken. DESIGN CHOICE (log 20). -/
def beginReset (s : State) : State := hardResetStation { s.ctl with state := .config, resetting := true } s

/-- HARD_RESET ends: the straps are sampled, every block takes its hard-reset values, and with the auto-start strap set the
station is JOINING at once (R154, R155). -/
def endReset (address : Vector Level 5) (mode : ModePins) (s : State) : State :=
  let s₁ := hardResetStation
    { state := .config, number := strapNumber address, rate := strapRate mode, auto := strapAuto mode,
      resetting := false } s
  if strapAuto mode then startStation s₁ else s₁

/-- HARD_RESET: its beginning, at which no strap is sampled, or its end (R155). -/
def execHardReset (edge : ResetEdge) (address : Vector Level 5) (mode : ModePins) (s : State) :
    Host.Outcome State Fault Refusal :=
  .next
    (match edge with
     | .asserted => beginReset s
     | .released => endReset address mode s)

/-- The restart values of every block: runtime state as at hard reset, straps and configuration kept (R157, R163). An
attempt in progress is aborted on the line (R130). -/
def restartStation (s : State) : State :=
  { clock := { s.clock with microDue := false }
    ctl := { s.ctl with state := .config }
    chans := s.chans.map forceSafe
    part := Participant.initial
    prop := Proposer.initial
    time := TimeUnit.initial s.time.trim
    memb := Membership.initial s.ctl.number
    line := { LineController.initial with driveUntil := (abortAttempt s).line.driveUntil }
    capt := Capture.initial s.capt.selections s.capt.pins
    port := s.port
    notes := { s.notes with flags := 0 }
    pending := s.pending }

/-- The Line Controller at entry to FAULTED (R131). -/
def faultLine (s : State) : State :=
  let s₁ := clearQueue s
  s₁.setLine { s₁.line with reservation := none, replies := [], failures := 0, mute := none }

/-- Entry to FAULTED, by each block's own rule (R161): R20, R51, R77, R98, R112, R131; FAULT is raised. -/
def enterFaulted (s : State) : State :=
  let s₁ := faultLine s
  let s₂ := clearProposer (clearParticipant (s₁.setChans (s₁.chans.map forceSafe)))
  let s₃ := s₂.setTime { s₂.time with ownSync := false, selfSource := none }
  let s₄ := s₃.setMemb { s₃.memb with interval := none, presence := none, ownPresence := false }
  raise .fault (s₄.setCtl { s₄.ctl with state := .faulted })

end Sys2Proof.Machine
end

