-- ==== Sys2Proof/Machine/LineEvents.lean ====
section
/-! DEFINITION. The events of the line and of this station's transmissions: edges, gaps, breaks, attempts, reply slots, sent frames (Chapter 7). -/

namespace Sys2Proof.Machine

/-! ### The observed line -/

/-- The line is recessive and no frame is in progress: a dominant bit is a start bit (R114). -/
def atRest (s : State) : Bool :=
  match s.line.observed with
  | some .idle => true
  | some (.gap _) => true
  | _ => false

/-- A frame begins now: FRAME, with its start edge recorded (R114, R128). -/
def beginFrame (s : State) : State :=
  let s₁ := observe .frame s
  s₁.setLine { s₁.line with frameStart := some s.clock.osc }

/-- The start-edge sample is taken (R82). -/
def takeSample (s : State) : State := s.setTime { s.time with sample := some s.time.now }

/-- FRAME_START_EDGE: a dominant start bit in IDLE or GAP (R82, R114). The Time Unit samples where frames are received,
in JOINING and MEMBER; in FAULTED it keeps the sample it has (R98). DEDUCED (log 15). -/
def execFrameStartEdge (s : State) : Host.Outcome State Fault Refusal :=
  .next
    (if atRest s then
       let s₁ := beginFrame s
       if checksFrames s then takeSample s₁ else s₁
     else s)

/-- The gap has lasted 12 recessive bit times (R114). -/
def gapEndDue (s : State) : Bool :=
  match s.line.observed with
  | some (.gap count) => decide (Config.gapBits ≤ gapCount s count)
  | _ => false

/-- GAP_END: GAP becomes IDLE after 12 recessive bit times (R114). -/
def execGapEnd (s : State) : Host.Outcome State Fault Refusal :=
  .next (if gapEndDue s then observe .idle s else s)

/-- BREAK_DETECTED: the 30th dominant bit time, once for each break (R121). DESIGN CHOICE (log 23). -/
def execBreakDetected (s : State) : Host.Outcome State Fault Refusal :=
  .next
    (if observesLine s && s.line.observed != some .brk then
       let s₁ := raise .line (countBreak (observe .brk s))
       if s.line.attempt.isSome then failAttempt s₁ else s₁
     else s)

/-- BREAK_END: after 12 recessive bit times BREAK becomes IDLE at once (R121). DESIGN CHOICE (log 23). -/
def execBreakEnd (s : State) : Host.Outcome State Fault Refusal :=
  .next (if s.line.observed = some .brk then observe .idle s else s)

/-- FRAME_END: a frame on the line ends (R114), other than one that this station is transmitting. -/
def execFrameEnd (cutShort : Bool) (s : State) : Host.Outcome State Fault Refusal :=
  .next (if s.line.attempt.isSome then s else endFrame cutShort s)

/-! ### Attempts (R117 to R120) -/

/-- A reply-window reservation is open (R123). -/
def reservationOpen (s : State) : Bool :=
  match s.line.reservation with
  | some e => decide (s.clock.osc < e)
  | none => false

/-- The instant is a bit-time boundary of the idle line, counted from the end of its gap (R117).
DESIGN CHOICE (log 8). -/
def onBitBoundary (s : State) : Bool := (s.clock.osc - s.line.since) % bitTime s.ctl.rate == 0

/-- The conditions under which an attempt begins (R117). -/
def attemptDue (s : State) : Bool :=
  s.ctl.state == .member && s.line.mute.isNone && !reservationOpen s && !s.line.queue.isEmpty &&
    s.line.attempt.isNone && s.line.observed == some .idle && onBitBoundary s

/-- A frame with the values its owner fills at the start edge: the time of a SYNC, the figures of a PRESENCE (R93, R109, R120). -/
def fillFrame (s : State) (f : Frame) : Frame :=
  match f.body with
  | .sync _ => { f with body := .sync s.time.now }
  | .presence _ _ _ join =>
    { f with body := .presence s.time.lock (BitVec.ofNat 8 (freeRecords s)) (BitVec.ofNat 8 (freeSlots s)) join }
  | _ => f

/-- This station begins a frame of its own: its start edge is the frame's start edge, and is sampled (R82, R117). -/
def beginAttempt (reply : Bool) (f : Frame) (s : State) : State :=
  let a : Attempt := { reply := reply, entry := f, sent := fillFrame s f, start := s.clock.osc }
  let s₁ := takeSample (beginFrame s)
  s₁.setLine { s₁.line with attempt := some a }

/-- ATTEMPT_START: an attempt with the head entry of the queue (R117). -/
def execAttemptStart (s : State) : Host.Outcome State Fault Refusal :=
  .next
    (if attemptDue s then
       match s.line.queue with
       | f :: _ => beginAttempt false f s
       | [] => s
     else s)

/-- The attempt sends a recessive bit at data bit `bit` of its arbitration character, the first being bit 0, and the
eight data bits are not all past: the ninth bit time of the character is not complete (R118). DESIGN CHOICE (log 22). -/
def canLose (s : State) (a : Attempt) (bit : Fin 8) : Bool :=
  (BitVec.ofNat 8 a.entry.arbitration).getLsbD (7 - bit.val) && decide (bitsSince s a.start < 9)

/-- ARBITRATION_LOSS: a 1 sent and a 0 seen at a data bit of the arbitration character: counted, the attempt ends without
failure, a queued frame stays queued (R118) and a REPLY is abandoned (R124). -/
def execArbitrationLoss (bit : Fin 8) (s : State) : Host.Outcome State Fault Refusal :=
  .next
    (match s.line.attempt with
     | some a =>
       if canLose s a bit then countArbitrationLoss (s.setLine { s.line with attempt := none }) else s
     | none => s)

/-- BIT_ERROR: any other mismatch fails the attempt; a queued frame stays queued, a REPLY is abandoned (R119, R124).
DESIGN CHOICE (log 23). -/
def execBitError (s : State) : Host.Outcome State Fault Refusal :=
  .next (if s.line.attempt.isSome then failAttempt (countBitError s) else s)

/-- The mute timer has reached its interval (R122). -/
def muteEndDue (s : State) : Bool :=
  match s.line.mute with
  | some t => decide (Config.mutePeriod ≤ t)
  | none => false

/-- MUTE_END: the station leaves MUTED with the failure count 0 (R122). -/
def execMuteEnd (s : State) : Host.Outcome State Fault Refusal :=
  .next (if muteEndDue s then s.setLine { s.line with mute := none, failures := 0 } else s)

/-! ### Sent frames (R120) -/

/-- The attempt is of a COMMIT whose proposal has met its epoch: the COMMIT is withdrawn, not sent (R67).
DEDUCED (log 26). -/
def commitOverdue (s : State) (a : Attempt) : Bool :=
  !a.reply && a.entry.body.kind == .commit && proposerEpochDue s

/-- The last stop bit of the attempt's frame completes (R120). -/
def frameSentDue (s : State) : Bool :=
  match s.line.attempt with
  | some a => decide (attemptEnd s a ≤ s.clock.osc) && !commitOverdue s a
  | none => false

/-- The presence timer restarts when this station completes a frame (R108). -/
def restartPresence (s : State) : State :=
  s.setMemb { s.memb with presence := s.memb.presence.map fun _ => 0 }

/-- The reservation of this station's own CALL (R123). -/
def reserveOwn (n : Nat) (s : State) : State :=
  let e := windowEndAt s n
  s.setLine { s.line with reservation := some (max e (s.line.reservation.getD e)) }

/-- The sent report to the owner of a frame: R94, R110, R61, R64, R67, R68; the owners of the others need none. -/
def reportSent (f : Frame) (s : State) : State :=
  match f.body with
  | .sync _ => s.setTime { s.time with ownSync := false, supervision := some 0, syncTimer := some 0 }
  | .presence _ _ _ join =>
    s.setMemb { s.memb with ownPresence := false, announced := s.memb.announced || join }
  | .stage _ _ => stageSent s
  | .call _ _ targets => callSent (reserveOwn targets.length s)
  | .commit _ => commitSent s
  | .abort _ _ => abortSent s
  | .reply _ _ _ => s
  | .decision _ _ => s
  | .inquire _ => s
  | .missed _ => s

/-- The station's frame has left the line complete: the failure count is 0 and the frame has ended (R120, R124). -/
def completeAttempt (s : State) : State :=
  endFrame false (s.setLine { s.line with attempt := none, failures := 0 })

/-- A frame of the queue has been sent: it leaves the queue, its owner and the Membership Unit are told, and then the
freed entry is reported (R116, R120). -/
def queueFrameSent (f : Frame) (s : State) : State :=
  let s₁ := completeAttempt s
  let s₂ := s₁.setLine { s₁.line with queue := s₁.line.queue.erase f }
  entryFreed (restartPresence (reportSent f s₂))

/-- FRAME_SENT: the last stop bit of a frame completes (R120), or of a REPLY (R124). -/
def execFrameSent (s : State) : Host.Outcome State Fault Refusal :=
  .next
    (if frameSentDue s then
       match s.line.attempt with
       | some a => if a.reply then restartPresence (completeAttempt s) else queueFrameSent a.entry s
       | none => s
     else s)

/-! ### Reply slots and reservations (R123, R124) -/

/-- A pending REPLY whose slot start has come. -/
def slotReached (s : State) (r : PendingReply) : Bool := decide (r.start ≤ s.clock.osc)

/-- Some pending REPLY has its slot start now. -/
def replySlotDue (s : State) : Bool := s.line.replies.any (slotReached s)

/-- A REPLY whose slot starts now can be sent (R124). DEDUCED (log 31). -/
def canReply (s : State) (r : PendingReply) : Bool :=
  decide (r.start = s.clock.osc) && s.ctl.state == .member && s.line.mute.isNone && s.line.attempt.isNone &&
    s.line.observed == some .idle

/-- REPLY_SLOT_START: the REPLY is begun if the line is IDLE and the station not MUTED, and otherwise abandoned (R124). Of
two REPLYs with the same slot start the one handed over first is dealt with first. DESIGN CHOICE (log 38). -/
def execReplySlotStart (s : State) : Host.Outcome State Fault Refusal :=
  .next
    (match s.line.replies.find? (slotReached s) with
     | some r =>
       let s₁ := s.setLine { s.line with replies := s.line.replies.eraseP (slotReached s) }
       if canReply s r then beginAttempt true r.frame s₁ else s₁
     | none => s)

/-- The end of the reservation has been reached (R123). -/
def reservationEndDue (s : State) : Bool :=
  match s.line.reservation with
  | some e => decide (e ≤ s.clock.osc)
  | none => false

/-- RESERVATION_END: the reservation becomes absent (R123). -/
def execReservationEnd (s : State) : Host.Outcome State Fault Refusal :=
  .next (if reservationEndDue s then s.setLine { s.line with reservation := none } else s)

end Sys2Proof.Machine
end

