-- ==== Sys2Proof/Machine/Timers.lean ====
section
/-! DEFINITION. The events that timers and network time bring: lock supervision, SYNC and PRESENCE timers, slew pieces, record timers, epochs, swaps, the window end (Chapters 1 to 6). -/

namespace Sys2Proof.Machine

/-! ### The Time Unit (R84, R88, R90, R92) -/

/-- The transition that the supervision timer drives, when its time is reached (R88). -/
def supervisionNext (s : State) : Option LockState :=
  match s.time.lock, s.time.supervision with
  | .locked, some t => if Config.holdoverAfter ≤ t then some .holdover else none
  | .holdover, some t => if Config.unlockAfter ≤ t then some .unlocked else none
  | .acquiring, some t => if Config.holdoverAfter ≤ t then some .unlocked else none
  | .unlocked, _ => none
  | _, none => none

/-- SUPERVISION_EXPIRY: LOCKED to HOLDOVER, HOLDOVER or ACQUIRING to UNLOCKED (R88, R91). -/
def execSupervisionExpiry (s : State) : Host.Outcome State Fault Refusal :=
  .next
    (match supervisionNext s with
     | some l => setLock l s
     | none => s)

/-- The self-source timer has reached its limit (R90). -/
def selfSourceDue (s : State) : Bool :=
  canSelfSource s && s.time.lock == .unlocked &&
    match s.time.selfSource with
    | some t => decide (Config.selfSourceAfter ≤ t)
    | none => false

/-- SELF_SOURCE: the station becomes LOCKED on its own authority; a JOINING station becomes MEMBER (R90). -/
def execSelfSource (s : State) : Host.Outcome State Fault Refusal :=
  .next (if selfSourceDue s then setLock .locked (restartSyncTimers s) else s)

/-- The sync timer has reached its period (R92). -/
def syncTimerDue (s : State) : Bool :=
  match s.time.syncTimer with
  | some t => decide (Config.syncPeriod ≤ t)
  | none => false

/-- SYNC_TIMER_EXPIRY: the timer restarts, and a MEMBER and LOCKED station with no SYNC outstanding offers one (R92). -/
def execSyncTimerExpiry (s : State) : Host.Outcome State Fault Refusal :=
  .next
    (if syncTimerDue s then
       let s₁ := s.setTime { s.time with syncTimer := some 0 }
       if s.ctl.state = .member ∧ s.time.lock = .locked ∧ s.time.ownSync = false then offerSync s₁ else s₁
     else s)

/-- SLEW_PIECE: the microsecond that ends now makes a piece of the slew (R84). -/
def execSlewPiece (s : State) : Host.Outcome State Fault Refusal :=
  .next
    (match slewPieceDue s with
     | some sl => pieceMicro sl s
     | none => s)

/-! ### Record timers (R31, R36, R37) -/

/-- The stale timer of the record at a position has reached its timeout (R31). -/
def staleDue (s : State) (i : Fin 4) : Bool :=
  holdsRecord (fun r => r.state == .staging && !r.self && timerReached s r Config.staleBits) s i

/-- STALE_TIMEOUT: the STAGING record is freed, with SET_DROPPED (R31). -/
def execStaleTimeout (pos : Fin 4) (s : State) : Host.Outcome State Fault Refusal :=
  .next (if staleDue s pos then raise .setDropped (freeRecord pos s) else s)

/-- The decision timer of the record at a position has run out (R36). -/
def decisionDue (s : State) (i : Fin 4) : Bool :=
  holdsRecord (fun r => r.state == .voted && !r.self && timerReached s r Config.decisionBits) s i

/-- The record at a position becomes IN_DOUBT (R36). -/
def becomeInDoubt (i : Fin 4) (s : State) : State :=
  match s.part.table[i] with
  | some r => putRecord i (some { r with state := .inDoubt }) s
  | none => s

/-- DECISION_TIMEOUT: VOTED becomes IN_DOUBT, and the first INQUIRE is attempted (R36, R37). -/
def execDecisionTimeout (pos : Fin 4) (s : State) : Host.Outcome State Fault Refusal :=
  .next (if decisionDue s pos then inquire pos (becomeInDoubt pos s) else s)

/-- The inquiry timer of the record at a position has run out, with attempts left (R37). -/
def inquiryDue (s : State) (i : Fin 4) : Bool :=
  holdsRecord (fun r => r.state == .inDoubt && decide (r.inquiries < Config.inquiryLimit) &&
    timerReached s r Config.decisionBits) s i

/-- INQUIRY_TIMER: another INQUIRE attempt (R37). -/
def execInquiryTimer (pos : Fin 4) (s : State) : Host.Outcome State Fault Refusal :=
  .next (if inquiryDue s pos then inquire pos s else s)

/-! ### Epochs, boundaries, windows (R42, R43, R48, R69, R16, R66) -/

/-- EPOCH_APPLY: an ARMED record is applied at its epoch (R42). -/
def execEpochApply (pos : Fin 4) (s : State) : Host.Outcome State Fault Refusal :=
  .next (if applyDue s pos then applyRecord pos s else s)

/-- EPOCH_EXPIRY: a VOTED or IN_DOUBT record of another station's set expires at its epoch (R43). -/
def execEpochExpiry (pos : Fin 4) (s : State) : Host.Outcome State Fault Refusal :=
  .next (if expiryDue s pos then expireRecord pos s else s)

/-- SELF_RECORD_EPOCH: a VOTED self record is freed at its epoch (R48). -/
def execSelfRecordEpoch (pos : Fin 4) (s : State) : Host.Outcome State Fault Refusal :=
  .next (if selfExpiryDue s pos then expireSelf pos s else s)

/-- PROPOSER_EPOCH: the open proposal meets its epoch (R67 to R69). -/
def execProposerEpoch (s : State) : Host.Outcome State Fault Refusal := .next (meetProposerEpoch s)

/-- SWAP_COMPLETE: a pending swap completes at its boundary (R16). -/
def execSwapComplete (channel : Fin 16) (s : State) : Host.Outcome State Fault Refusal :=
  .next (completeSwap channel s)

/-- WINDOW_END: the proposal is decided at the end of its reply window (R66). -/
def execWindowEnd (s : State) : Host.Outcome State Fault Refusal :=
  .next (if windowDue s then decideVote s else s)

/-! ### Membership timers (R106, R108) -/

/-- The membership interval has ended (R106). -/
def intervalDue (s : State) : Bool :=
  match s.memb.interval with
  | some t => decide (Config.memberInterval ≤ t)
  | none => false

/-- An entry falls silent at this interval end (R106). -/
def fallsSilent (e : MemberEntry) : Bool :=
  e.state == .present && !e.heard && decide (Config.missedLimit ≤ e.missed + 1)

/-- A member entry at an interval end (R106). -/
def endInterval (e : MemberEntry) : MemberEntry :=
  match e.state with
  | .present =>
    if e.heard then { e with heard := false }
    else if fallsSilent e then
      { e with state := .silent, missed := Config.missedLimit, lock := none, records := none, slots := none }
    else { e with missed := e.missed + 1 }
  | .absent => { e with heard := false }
  | .silent => { e with heard := false }
  | .self => e

/-- MEMBERSHIP_INTERVAL_END: every PRESENT entry is examined (R106). -/
def execMembershipIntervalEnd (s : State) : Host.Outcome State Fault Refusal :=
  .next
    (if intervalDue s then
       raiseIf (s.memb.entries.any fallsSilent) .member
         (s.setMemb { s.memb with entries := s.memb.entries.map endInterval, interval := some 0 })
     else s)

/-- The presence timer has reached its period (R108). -/
def presenceDue (s : State) : Bool :=
  match s.memb.presence with
  | some t => decide (Config.presencePeriod ≤ t)
  | none => false

/-- PRESENCE_CHECK: the timer restarts, and a PRESENCE is offered unless one is outstanding (R108). -/
def execPresenceCheck (s : State) : Host.Outcome State Fault Refusal :=
  .next (if presenceDue s then offerPresence (s.setMemb { s.memb with presence := some 0 }) else s)

end Sys2Proof.Machine
end

