-- ==== Sys2Proof/Machine/Clock.lean ====
section
/-! DEFINITION. What the T416 does on its own: the tick of the local oscillator and the events that are due. -/

namespace Sys2Proof.Machine

/-- What the block does by itself at an instant: one of the table's events, or the plain microsecond that ends now. -/
inductive Act where
  | event (i : Instr)
  | micro
deriving DecidableEq, Repr

/-- An event when it is due. -/
def dueIf (b : Bool) (i : Instr) : List Act := if b then [.event i] else []

/-- The microsecond that ends at this instant, with or without a slew piece (R79, R84). DEDUCED (log 36). -/
def microAct (s : State) : List Act :=
  if s.clock.microDue then [if (slewPieceDue s).isSome then .event .slewPiece else .micro] else []

/-- The events of a record at a position that are due (Chapter 2). -/
def recordActs (s : State) (i : Fin 4) : List Act :=
  dueIf (staleDue s i) (.staleTimeout i) ++ dueIf (decisionDue s i) (.decisionTimeout i) ++
    dueIf (inquiryDue s i) (.inquiryTimer i) ++ dueIf (applyDue s i) (.epochApply i) ++
    dueIf (expiryDue s i) (.epochExpiry i) ++ dueIf (selfExpiryDue s i) (.selfRecordEpoch i)

/-- The events, other than the end of a gap and the start of an attempt, that are due at this instant. The rules let any
of them be taken first. Whichever due input's CAPTURE_EDGE is taken, its one sample takes all of them (R147). -/
def openActs (s : State) : List Act :=
  microAct s ++ dueIf (muteEndDue s) .muteEnd ++ dueIf (replySlotDue s) .replySlotStart ++
    dueIf (reservationEndDue s) .reservationEnd ++ dueIf (windowDue s) .windowEnd ++
    dueIf (frameSentDue s) .frameSent ++ dueIf (supervisionNext s).isSome .supervisionExpiry ++
    dueIf (selfSourceDue s) .selfSource ++ dueIf (syncTimerDue s) .syncTimerExpiry ++
    positions.flatMap (recordActs s) ++ dueIf (proposerEpochDue s) .proposerEpoch ++
    (List.finRange 16).flatMap (fun c => dueIf (swapDue s c) (.swapComplete c)) ++
    dueIf (intervalDue s) .membershipIntervalEnd ++ dueIf (presenceDue s) .presenceCheck ++
    (List.finRange 8).flatMap (fun i => dueIf (sampleDue s i) (.captureEdge i s.capt.pins[i]))

/-- The events that may be taken next. The end of a gap comes first, so that an attempt or a reply slot at that boundary
finds the line IDLE (R114); an attempt comes last, so that a frame accepted at that boundary takes part in it (R117).
DESIGN CHOICE (log 3). -/
def dueActs (s : State) : List Act :=
  if gapEndDue s then [.event .gapEnd]
  else
    match openActs s with
    | [] => dueIf (attemptDue s) .attemptStart
    | acts => acts

/-- One half microsecond of the local oscillator passes; every second one ends a microsecond while time runs (R79).
DESIGN CHOICE (logs 3, 35). -/
def tick (s : State) : State :=
  let osc := s.clock.osc + 1
  s.setClock { s.clock with osc := osc, microDue := s.time.running && osc % 2 == 0 }

/-- The act taken among those due: the only one, or a free choice (Config.pickEvent). DESIGN CHOICE (log 4). -/
def chooseAct (s : State) : Option (Act × State) :=
  match dueActs s with
  | [] => none
  | [a] => some (a, s)
  | a :: rest =>
    some ((a :: rest).getD (Config.pickEvent s.clock.choices % (rest.length + 1)) a, countChoice s)

end Sys2Proof.Machine
end

