-- ==== Sys2Proof/Machine/Frames.lean ====
section
/-! DEFINITION. The frames that end in reception: discarded frames, and the ten kinds of valid frame (R125 to R128 and each owner's rule). -/

namespace Sys2Proof.Machine

/-- What the receiver does with a frame that ends now: the observed line goes from FRAME to GAP (R114), and `effect`
follows when frames are checked and this one was not cut by a break (R121, R125). A frame that this station transmits
is not received (R128). DESIGN CHOICE (log 10). -/
def frameEnds (effect : State → State) (s : State) : State :=
  if s.line.attempt.isSome then s
  else if receiving s then effect (endFrame false s)
  else endFrame false s

/-- The station filter: MEMBER passes every valid frame, JOINING a SYNC alone (R127). -/
def passesFilter (s : State) (kind : FrameKind) : Bool :=
  s.ctl.state == .member || (s.ctl.state == .joining && kind == .sync)

/-- A frame of a known kind that has passed its CRC: malformed and counted (R126), filtered by the station state (R127),
own-numbered (R161), or heard and then delivered (R128). DESIGN CHOICE (logs 11, 12, 16). -/
def receiveFrame (src : Station) (body : Body) (deliver : State → State) (s : State) : State :=
  frameEnds (fun t =>
    if !body.formed src then countMalformed t
    else if !passesFilter t body.kind then t
    else if src = t.ctl.number then enterFaulted t
    else deliver (hear src t)) s

/-- Deliver a frame to its owner when it is addressed to this station (R128). -/
def ifAddressed (dest : Station) (effect : State → State) (s : State) : State :=
  if dest = s.ctl.number then effect s else s

/-- The Participant Unit ignores and counts a frame whose set id names another proposer than its source (R28). -/
def ifProposer (src : Station) (set : SetId) (effect : State → State) (s : State) : State :=
  if set.proposer = src then effect s else countAnomaly s

/-- The reservation of a valid CALL from another station: to its window end, or the later of two ends (R123). -/
def reserve (n : Nat) (s : State) : State :=
  let e := windowEndAt s n
  s.setLine { s.line with reservation := some (max e (s.line.reservation.getD e)) }

/-- What the Participant Unit does on a CALL: a vote when the list names this station (R32). -/
def callEffect (set : SetId) (epoch : NetTime) (targets : List CallEntry) (s : State) : State :=
  match callEntryFor s.ctl.number 0 targets with
  | some (k, count) => callVote set epoch targets.length k count s
  | none => s

/-- CRC_ERROR: a frame with a framing error, cut short, or with a CRC mismatch is discarded and counted (R125). -/
def execCrcError (cause : CrcCause) (s : State) : Host.Outcome State Fault Refusal :=
  .next
    (if s.line.attempt.isSome then s
     else if receiving s then countCrcError (endFrame (cause == .cutShort) s)
     else endFrame (cause == .cutShort) s)

/-- UNKNOWN_KIND: a frame whose kind code is 10 to 255 is discarded and counted (R136). -/
def execUnknownKind (s : State) : Host.Outcome State Fault Refusal := .next (frameEnds countUnknownKind s)

/-- MALFORMED_FRAME: a frame of a known kind that breaks a condition of form is discarded and counted once (R137). -/
def execMalformedFrame (s : State) : Host.Outcome State Fault Refusal := .next (frameEnds countMalformed s)

/-- OWN_NUMBER_FRAME: a valid frame with this station's number that it did not send, a SYNC in JOINING and any kind in
MEMBER, makes the station FAULTED (R127, R161). -/
def execOwnNumberFrame (kind : FrameKind) (s : State) : Host.Outcome State Fault Refusal :=
  .next (frameEnds (fun t => if passesFilter t kind then enterFaulted t else t) s)

/-- SYNC: the Time Unit takes it against the start-edge sample (R83). Every frame received has one (R82).
DESIGN CHOICE (log 14). -/
def execSync (src : Station) (time : NetTime) (s : State) : Host.Outcome State Fault Refusal :=
  .next (receiveFrame src (.sync time) (fun t =>
    match t.time.sample with
    | some sample => takeSync time sample t
    | none => t) s)

/-- STAGE: staged items for this station (R28 to R30). -/
def execStage (src dest : Station) (set : SetId) (items : List Item) (s : State) :
    Host.Outcome State Fault Refusal :=
  .next (receiveFrame src (.stage set items)
    (ifAddressed dest (ifProposer src set (stageEffect set items))) s)

/-- CALL: the reservation, then the vote (R123, R128, R32). -/
def execCall (src : Station) (set : SetId) (epoch : NetTime) (targets : List CallEntry) (s : State) :
    Host.Outcome State Fault Refusal :=
  .next (receiveFrame src (.call set epoch targets) (fun t =>
    ifProposer src set (callEffect set epoch targets) (reserve targets.length t)) s)

/-- COMMIT (R38, R41). -/
def execCommit (src : Station) (set : SetId) (s : State) : Host.Outcome State Fault Refusal :=
  .next (receiveFrame src (.commit set) (ifProposer src set (commitEffect false set)) s)

/-- ABORT: the reason does not alter the effect (R39). -/
def execAbort (src : Station) (set : SetId) (reason : AbortReason) (s : State) :
    Host.Outcome State Fault Refusal :=
  .next (receiveFrame src (.abort set reason) (ifProposer src set (abortEffect set)) s)

/-- What a DECISION does, by its outcome (R40). -/
def decisionEffect (set : SetId) (outcome : DecisionOutcome) (s : State) : State :=
  match outcome with
  | .committed => commitEffect true set s
  | .aborted => refuseDecisionEffect set s
  | .unknown => refuseDecisionEffect set s

/-- DECISION (R40). -/
def execDecision (src dest : Station) (set : SetId) (outcome : DecisionOutcome) (s : State) :
    Host.Outcome State Fault Refusal :=
  .next (receiveFrame src (.decision set outcome)
    (ifAddressed dest (ifProposer src set (decisionEffect set outcome))) s)

/-- REPLY: the free-slot figure for the Membership Unit whatever the destination (R104), then the proposer's result (R65). -/
def execReply (src dest : Station) (set : SetId) (verdict : Verdict) (slots : Byte) (s : State) :
    Host.Outcome State Fault Refusal :=
  .next (receiveFrame src (.reply set verdict slots) (fun t =>
    ifAddressed dest (replyEffect src set verdict) (reportSlots src slots.toNat t)) s)

/-- INQUIRE: answered from the decision log (R75). -/
def execInquire (src dest : Station) (set : SetId) (s : State) : Host.Outcome State Fault Refusal :=
  .next (receiveFrame src (.inquire set) (ifAddressed dest (inquireEffect src set)) s)

/-- MISSED: recorded in the decision log (R76). -/
def execMissed (src dest : Station) (set : SetId) (s : State) : Host.Outcome State Fault Refusal :=
  .next (receiveFrame src (.missed set) (ifAddressed dest (missedEffect src set)) s)

/-- A join announcement: the purge, and MEMBER even when the entry was PRESENT (R105). -/
def joinEffect (src : Station) (s : State) : State := raise .member (purgeProposer src s)

/-- PRESENCE: the sender's figures (R103), and the rejoin of a join announcement (R105). -/
def execPresence (src : Station) (lock : LockState) (records slots : Byte) (join : Bool) (s : State) :
    Host.Outcome State Fault Refusal :=
  .next (receiveFrame src (.presence lock records slots join) (fun t =>
    let t₁ := reportPresence src lock records.toNat slots.toNat t
    if join then joinEffect src t₁ else t₁) s)

end Sys2Proof.Machine
end

