-- ==== Sys2Proof/Machine/Operands.lean ====
section
/-! DEFINITION. The Local Port's operands and results: how a command is taken, the codes of Chapter 8, the result layouts of the read commands (R139 to R143, R165 to R171). -/

namespace Sys2Proof.Machine

/-! ### Taking a command (R165 to R170) -/

/-- What an owner answers: the state after its effect, the status, the result characters. -/
structure Answer where
  state : State
  status : Status
  results : List Byte

/-- An answer with no results (R140). -/
def answer (s : State) (status : Status) : Answer := { state := s, status := status, results := [] }

/-- The response of a command taken replaces the stored response, and the transaction has ended (R170). -/
def storeResponse (code : Byte) (a : Answer) : State :=
  a.state.setPort { stored := { code := code, status := a.status, results := a.results }, transaction := none }

/-- The transaction may carry a command: no hard reset lasts, or has met it (R155, R168). -/
def carriesCommand (s : State) : Bool := !s.ctl.resetting && s.port.transaction != some .spoiled

/-- The release of SSEL without a command: the stored response is unchanged (R167, R168). -/
def releaseOnly (s : State) : State := s.setPort { s.port with transaction := none }

/-- A command is taken: the port's check of the argument length, then the owner (R169, R170). DESIGN CHOICE (log 17). -/
def takeCommand (code : Byte) (len : Nat) (args : List Byte) (owner : State → Answer) (s : State) : State :=
  if carriesCommand s then
    storeResponse code (if args.length = len then owner s else answer s .badArgument)
  else releaseOnly s

/-! ### Codes (R140, R141) -/

/-- Status codes (R140). -/
def Status.code : Status → Nat
  | .ok => 0
  | .busy => 1
  | .badState => 2
  | .badArgument => 3
  | .full => 4
  | .empty => 5
  | .notLocked => 6
  | .targetAbsent => 7
  | .noRoom => 8
  | .late => 9
  | .far => 10

/-- Station state codes (R141). -/
def StationState.code : StationState → Nat
  | .config => 0
  | .joining => 1
  | .member => 2
  | .faulted => 3

/-- Member state codes (R141). -/
def MemberState.code : MemberState → Nat
  | .absent => 0
  | .present => 1
  | .silent => 2
  | .self => 3

/-- Participant-record state codes (R141). -/
def RecordState.code : RecordState → Nat
  | .staging => 0
  | .voted => 1
  | .inDoubt => 2
  | .armed => 3

/-- Proposer phase codes (R141). -/
def Activity.code : Activity → Nat
  | .idle => 0
  | .drafting _ => 1
  | .active p =>
    match p.phase with
    | .staging => 2
    | .calling => 3
    | .voting => 4
    | .committing => 5
    | .aborting => 6

/-- Per-target result codes (R141). -/
def TargetResult.code : TargetResult → Nat
  | .pending => 0
  | .ready => 1
  | .refused _ => 2
  | .noReply => 3
  | .missed => 4

/-- The reason character of a per-target result (R141). -/
def TargetResult.reason : TargetResult → Nat
  | .refused r => r.code
  | .pending => 0
  | .ready => 0
  | .noReply => 0
  | .missed => 0

/-- Loss policy codes (R139). -/
def LossPolicy.code : LossPolicy → Nat
  | .forceSafe => 0
  | .continue => 1

/-- Captured edge codes (R141). -/
def Edge.code : Edge → Nat
  | .rising => 1
  | .falling => 2

/-- The level of an argument code, 0 or 1 (R139). -/
def levelArg? : Nat → Option Level
  | 0 => some .low
  | 1 => some .high
  | _ => none

/-- The loss policy of an argument code, 0 or 1 (R139). -/
def policyArg? : Nat → Option LossPolicy
  | 0 => some .forceSafe
  | 1 => some .continue
  | _ => none

/-- The edge selection of an argument code, 0 to 3 (R139). -/
def selectionArg? : Nat → Option EdgeSelection
  | 0 => some .none
  | 1 => some .rising
  | 2 => some .falling
  | 3 => some .both
  | _ => none

/-- An index below n, when the argument is one. -/
def indexArg? (n v : Nat) : Option (Fin n) := if h : v < n then some ⟨v, h⟩ else none

/-! ### Result layouts (section 8.4) -/

/-- One character. -/
def byte (n : Nat) : Byte := BitVec.ofNat 8 n

/-- A network time in six characters (R134). -/
def timeBytes (t : NetTime) : List Byte := beBytes 6 t.toNat

/-- A signed amount in six characters, its value modulo 2^48 (R134). -/
def signedBytes (o : Int) : List Byte := beBytes 6 (BitVec.ofInt 48 o).toNat

/-- An absent network time reads as 0 (R141). -/
def timeOr0 (t : Option NetTime) : List Byte := timeBytes (t.getD 0)

/-- A response as it is shifted out (R140). -/
def responseBytes (r : Response) : List Byte := r.code :: byte r.status.code :: byte r.results.length :: r.results

/-- Character k on SDO of the transaction in progress; 0 beyond the stored response (R166). -/
def sdoChar (s : State) (k : Nat) : Byte := charAt (responseBytes s.port.stored) k

/-- Bit `n` that a transaction presents on SDO, the first being bit 0: characters in order, each most significant bit first;
SDO is not driven while SSEL is released (R166). -/
def sdo (s : State) (n : Nat) : Option Bool :=
  s.port.transaction.map fun _ => (byteBits (sdoChar s (n / 8))).getD (n % 8) false

/-- An entry of a READ OUTCOME result. -/
def resultBytes (st : Nat) (r : TargetResult) : List Byte := [byte st, byte r.code, byte r.reason]

/-- READ OUTCOME results. -/
def outcomeBytes (index : Nat) (e : LogEntry) : List Byte :=
  let entries := e.targets.flatMap (fun t => resultBytes t.station.val t.result)
  let selfEntry :=
    match e.selfResult with
    | some r => resultBytes 255 r
    | none => []
  let reason :=
    match e.abort with
    | some a => a.code
    | none => 0
  byte index :: (setIdBytes e.set ++ timeBytes e.epoch ++
    [byte (if e.abort.isSome then 2 else 1), byte reason,
      byte (e.targets.length + if e.selfResult.isSome then 1 else 0)] ++ entries ++ selfEntry)

/-- READ CAPTURE results. -/
def captureBytes (r : CaptureRecord) : List Byte :=
  byte r.input.val :: byte r.edge.code :: (timeBytes r.time ++ [byte r.quality.code, byte r.lostBefore])

/-- READ NOTICE results (R142). -/
def noticeBytes (n : Option Notice) (lastStep : Option Int) : List Byte :=
  match n with
  | some .step => byte Notice.step.code :: signedBytes (lastStep.getD 0)
  | some other => byte other.code :: signedBytes 0
  | none => byte 0 :: signedBytes 0

/-- A flag's weight, 0 when it is clear. -/
def weight (b : Bool) (n : Nat) : Nat := if b then n else 0

/-- The lock state code of an optional field, 0 when absent (R141). -/
def lockOr0 (l : Option LockState) : Nat :=
  match l with
  | some x => x.code
  | none => 0

/-- READ MEMBER results. -/
def memberBytes (st : Nat) (e : MemberEntry) (announced : Bool) : List Byte :=
  [byte st, byte e.state.code,
    byte (weight e.lastHeard.isSome 1 + weight e.lock.isSome 2 + weight e.records.isSome 4 + weight e.slots.isSome 8),
    byte e.missed] ++ timeOr0 e.lastHeard ++
    [byte (lockOr0 e.lock), byte (e.records.getD 0), byte (e.slots.getD 0), byte announced.toNat]

/-- The SELF entry as it reads: this station's own values (R101). -/
def selfEntryNow (s : State) (e : MemberEntry) : MemberEntry :=
  { e with lock := some s.time.lock, records := some (freeRecords s), slots := some (freeSlots s) }

/-- The member entry that READ MEMBER reports (R101, R111). -/
def reportedEntry (s : State) (st : Station) : MemberEntry :=
  if s.memb.entries[st].state = .self then selfEntryNow s s.memb.entries[st] else s.memb.entries[st]

/-- The pending fields of a READ CHANNEL result; 0 in NORMAL. -/
def pendingBytes (w : Option PendingSwap) : List Byte :=
  match w with
  | some w => programBytes w.program ++ timeBytes w.boundary ++ setIdBytes w.set
  | none => List.replicate 21 0

/-- READ CHANNEL results. -/
def channelBytes (c : Nat) (ch : ChannelRecord) (pin : Level) : List Byte :=
  [byte c, byte (weight ch.pending.isSome 1), byte ch.safe.code, byte ch.policy.code, byte pin.code] ++
    programBytes ch.active ++ timeBytes ch.anchor ++ pendingBytes ch.pending

/-- READ SET results. -/
def setBytes (pos : Nat) (o : Option SetRecord) : List Byte :=
  match o with
  | none => byte pos :: List.replicate 14 0
  | some r =>
    [byte pos, 1] ++ setIdBytes r.set ++
      [byte r.state.code,
        byte (weight r.short 1 + weight r.invalid 2 + weight r.self 4 + weight r.epoch.isSome 8 +
          weight r.expected.isSome 16)] ++
      timeOr0 r.epoch ++ [byte (r.expected.getD 0), byte r.inquiries, byte r.items.length] ++
      r.items.flatMap itemBytes

/-- The eight counters, two characters each (section 8.4). -/
def counterBytes (c : Counters) : List Byte :=
  [c.crcErrors, c.malformed, c.unknownKind, c.arbitrationLosses, c.bitErrors, c.breaks, c.mutes, c.anomalies].flatMap
    (beBytes 2)

/-- READ STATUS results (R172). -/
def statusBytes (s : State) : List Byte :=
  [byte s.ctl.state.code, byte s.ctl.number.val, byte s.ctl.rate.code, byte s.ctl.auto.toNat] ++
    counterBytes s.line.counters ++
    [byte (freeRecords s), byte (freeSlots s), byte s.prop.activity.code] ++ beBytes 2 s.capt.totalLost

end Sys2Proof.Machine
end

