-- ==== Sys2Proof/Machine/PortCommands.lean ====
section
/-! DEFINITION. The local-port commands and events: one owner's answer and one meaning for each (Chapters 8, 11 and each owner's rule). -/

namespace Sys2Proof.Machine

/-- A command that is taken in CONFIG alone (R156): BAD_STATE elsewhere, and then the owner's checks.
DEDUCED (log 18). -/
def inConfig (s : State) (owner : State → Answer) : Answer :=
  if s.ctl.state = .config then owner s else answer s .badState

/-- NOP: no effect (R171). -/
def execNop (args : List Byte) (s : State) : Host.Outcome State Fault Refusal :=
  .next (takeCommand 0 0 args (fun t => answer t .ok) s)

/-- UNKNOWN_COMMAND: a code of 19 to 255 is refused BAD_ARGUMENT, whatever its arguments (R169). A code of 0 to 18 is no
unknown command: nothing is taken. DESIGN CHOICE (log 19). -/
def execUnknownCommand (code : Byte) (_args : List Byte) (s : State) : Host.Outcome State Fault Refusal :=
  .next
    (if carriesCommand s && decide (19 ≤ code.toNat) then storeResponse code (answer s .badArgument)
     else releaseOnly s)

/-- TRANSACTION_WITHOUT_COMMAND: SSEL is released with no whole character shifted in (R167). -/
def execTransactionWithoutCommand (s : State) : Host.Outcome State Fault Refusal := .next (releaseOnly s)

/-- SSEL_ASSERTED: a transaction begins, in which the stored response is shifted out (R166); begun during a hard reset it
carries no command (R168). -/
def execSselAsserted (s : State) : Host.Outcome State Fault Refusal :=
  .next
    (if s.port.transaction.isNone then
       s.setPort { s.port with transaction := some (if s.ctl.resetting then .spoiled else .live) }
     else s)

/-- The owner of CONFIGURE CHANNEL (R2). -/
def ownConfigureChannel (args : List Byte) (s : State) : Answer :=
  inConfig s fun s =>
    match indexArg? 16 (charAt args 0).toNat, levelArg? (charAt args 1).toNat, policyArg? (charAt args 2).toNat with
    | some c, some level, some policy =>
      let ch : ChannelRecord :=
        { s.chans[c] with active := holdProgram level, anchor := 0, safe := level, policy := policy }
      answer (s.setChans (s.chans.set c.val ch)) .ok
    | _, _, _ => answer s .badArgument

/-- CONFIGURE CHANNEL (R2). -/
def execConfigureChannel (args : List Byte) (s : State) : Host.Outcome State Fault Refusal :=
  .next (takeCommand 1 3 args (ownConfigureChannel args) s)

/-- The owner of CONFIGURE CAPTURE (R144). -/
def ownConfigureCapture (args : List Byte) (s : State) : Answer :=
  inConfig s fun s =>
    match indexArg? 8 (charAt args 0).toNat, selectionArg? (charAt args 1).toNat with
    | some i, some sel => answer (s.setCapt { s.capt with selections := s.capt.selections.set i.val sel }) .ok
    | _, _ => answer s .badArgument

/-- CONFIGURE CAPTURE (R144). -/
def execConfigureCapture (args : List Byte) (s : State) : Host.Outcome State Fault Refusal :=
  .next (takeCommand 2 2 args (ownConfigureCapture args) s)

/-- The owner of CONFIGURE TRIM (R95). -/
def ownConfigureTrim (args : List Byte) (s : State) : Answer :=
  inConfig s fun s =>
    match indexArg? 16 (charAt args 0).toNat with
    | some trim => answer (s.setTime { s.time with trim := trim }) .ok
    | none => answer s .badArgument

/-- CONFIGURE TRIM (R95). -/
def execConfigureTrim (args : List Byte) (s : State) : Host.Outcome State Fault Refusal :=
  .next (takeCommand 3 1 args (ownConfigureTrim args) s)

/-- The owner of CONFIGURE NOTICES: bits 11 to 15 are not examined (R142, R175). -/
def ownConfigureNotices (args : List Byte) (s : State) : Answer :=
  answer (s.setNotes { s.notes with enable := BitVec.ofNat 11 (fieldAt args 0 2) }) .ok

/-- CONFIGURE NOTICES (R175). -/
def execConfigureNotices (args : List Byte) (s : State) : Host.Outcome State Fault Refusal :=
  .next (takeCommand 4 2 args (ownConfigureNotices args) s)

/-- START (R158). -/
def execStart (args : List Byte) (s : State) : Host.Outcome State Fault Refusal :=
  .next (takeCommand 5 0 args (fun t => inConfig t fun u => answer (startStation u) .ok) s)

/-- RESTART: taken in every station state (R163). -/
def execRestart (args : List Byte) (s : State) : Host.Outcome State Fault Refusal :=
  .next (takeCommand 6 0 args (fun t => answer (restartStation t) .ok) s)

/-- The owner of OPEN SET (R56). -/
def ownOpenSet (args : List Byte) (s : State) : Answer :=
  if s.ctl.state ≠ .member then answer s .badState
  else
    match s.prop.activity with
    | .idle =>
      answer (setActivity (.drafting { epoch := BitVec.ofNat 48 (fieldAt args 0 6), items := [] }) s) .ok
    | _ => answer s .busy

/-- OPEN SET (R56). -/
def execOpenSet (args : List Byte) (s : State) : Host.Outcome State Fault Refusal :=
  .next (takeCommand 7 6 args (ownOpenSet args) s)

/-- The checks and the effect of ADD ITEM in DRAFTING (R57). -/
def addItemTo (d : Draft) (target : Option Station) (it : Item) (s : State) : Answer :=
  match target with
  | none => answer s .badArgument
  | some st =>
    if !itemValid it then answer s .badArgument
    else if !draftHasRoom s.ctl.number st it d.items then answer s .full
    else answer (setActivity (.drafting { d with items := addToDraft st it d.items }) s) .ok

/-- The owner of ADD ITEM (R57). -/
def ownAddItem (args : List Byte) (s : State) : Answer :=
  match s.prop.activity with
  | .drafting d => addItemTo d (stationOf? (charAt args 0).toNat) (itemAt args 1) s
  | _ => answer s .badState

/-- ADD ITEM (R57). -/
def execAddItem (args : List Byte) (s : State) : Host.Outcome State Fault Refusal :=
  .next (takeCommand 8 15 args (ownAddItem args) s)

/-- The owner of SUBMIT (R58, R59). -/
def ownSubmit (s : State) : Answer :=
  match s.prop.activity with
  | .drafting d =>
    if submitStatus s d = .ok then answer (acceptSubmit d s) .ok else answer s (submitStatus s d)
  | _ => answer s .badState

/-- SUBMIT (R58, R59). -/
def execSubmit (args : List Byte) (s : State) : Host.Outcome State Fault Refusal :=
  .next (takeCommand 9 0 args ownSubmit s)

/-- The owner of WITHDRAW (R70). -/
def ownWithdraw (s : State) : Answer :=
  match s.prop.activity with
  | .idle => answer s .badState
  | .drafting _ => answer (setActivity .idle s) .ok
  | .active p =>
    match p.phase with
    | .staging => answer (abortProposal .withdrawn s) .ok
    | .calling => answer (abortProposal .withdrawn s) .ok
    | .voting => answer s .badState
    | .committing => answer s .badState
    | .aborting => answer s .badState

/-- WITHDRAW (R70). -/
def execWithdraw (args : List Byte) (s : State) : Host.Outcome State Fault Refusal :=
  .next (takeCommand 10 0 args ownWithdraw s)

/-- The owner of READ OUTCOME: index 0 is the newest entry (R74). -/
def ownReadOutcome (args : List Byte) (s : State) : Answer :=
  let index := (charAt args 0).toNat
  if 7 < index then answer s .badArgument
  else
    match s.prop.log.reverse[index]? with
    | some e => { state := s, status := .ok, results := outcomeBytes index e }
    | none => answer s .empty

/-- READ OUTCOME (R74). -/
def execReadOutcome (args : List Byte) (s : State) : Host.Outcome State Fault Refusal :=
  .next (takeCommand 11 1 args (ownReadOutcome args) s)

/-- The owner of READ CAPTURE: the oldest record is removed and returned (R150). -/
def ownReadCapture (s : State) : Answer :=
  match s.capt.queue with
  | r :: rest => { state := s.setCapt { s.capt with queue := rest }, status := .ok, results := captureBytes r }
  | [] => answer s .empty

/-- READ CAPTURE (R150). -/
def execReadCapture (args : List Byte) (s : State) : Host.Outcome State Fault Refusal :=
  .next (takeCommand 12 0 args ownReadCapture s)

/-- The flag that READ NOTICE clears: that of the notice reported, but not CAPTURE's (R176). -/
def afterReading (n : Option Notice) (s : State) : State :=
  match n with
  | some .capture => s
  | some other => clearNotice other s
  | none => s

/-- The owner of READ NOTICE (R176). -/
def ownReadNotice (s : State) : Answer :=
  { state := afterReading (urgentNotice s) s, status := .ok,
    results := noticeBytes (urgentNotice s) s.time.lastStep }

/-- READ NOTICE (R176). -/
def execReadNotice (args : List Byte) (s : State) : Host.Outcome State Fault Refusal :=
  .next (takeCommand 13 0 args ownReadNotice s)

/-- The owner of READ TIME (R96). -/
def ownReadTime (s : State) : Answer :=
  { state := s, status := .ok, results := timeBytes s.time.now ++ [byte s.time.lock.code] }

/-- READ TIME (R96). -/
def execReadTime (args : List Byte) (s : State) : Host.Outcome State Fault Refusal :=
  .next (takeCommand 14 0 args ownReadTime s)

/-- The owner of READ MEMBER (R111). -/
def ownReadMember (args : List Byte) (s : State) : Answer :=
  match stationOf? (charAt args 0).toNat with
  | some st =>
    { state := s, status := .ok, results := memberBytes st.val (reportedEntry s st) s.memb.announced }
  | none => answer s .badArgument

/-- READ MEMBER (R111). -/
def execReadMember (args : List Byte) (s : State) : Host.Outcome State Fault Refusal :=
  .next (takeCommand 15 1 args (ownReadMember args) s)

/-- The owner of READ CHANNEL (R23). -/
def ownReadChannel (args : List Byte) (s : State) : Answer :=
  match indexArg? 16 (charAt args 0).toNat with
  | some c => { state := s, status := .ok, results := channelBytes c.val s.chans[c] (pinLevel s c) }
  | none => answer s .badArgument

/-- READ CHANNEL (R23). -/
def execReadChannel (args : List Byte) (s : State) : Host.Outcome State Fault Refusal :=
  .next (takeCommand 16 1 args (ownReadChannel args) s)

/-- The owner of READ SET (R52). -/
def ownReadSet (args : List Byte) (s : State) : Answer :=
  match indexArg? 4 (charAt args 0).toNat with
  | some i => { state := s, status := .ok, results := setBytes i.val s.part.table[i] }
  | none => answer s .badArgument

/-- READ SET (R52). -/
def execReadSet (args : List Byte) (s : State) : Host.Outcome State Fault Refusal :=
  .next (takeCommand 17 1 args (ownReadSet args) s)

/-- The owner of READ STATUS (R172). -/
def ownReadStatus (s : State) : Answer := { state := s, status := .ok, results := statusBytes s }

/-- READ STATUS (R172). -/
def execReadStatus (args : List Byte) (s : State) : Host.Outcome State Fault Refusal :=
  .next (takeCommand 18 0 args ownReadStatus s)

end Sys2Proof.Machine
end

