-- ==== Sys2Proof/Machine/Dispatch.lean ====
section
/-! DEFINITION. The meaning of each command: one arm per constructor of Instr, each one direct call. -/

namespace Sys2Proof.Machine

def exec (i : Instr) (s : State) : Host.Outcome State Fault Refusal :=
  match i with
  | .hardReset edge address mode => Sys2Proof.Machine.execHardReset edge address mode s
  | .nop args => Sys2Proof.Machine.execNop args s
  | .unknownCommand code args => Sys2Proof.Machine.execUnknownCommand code args s
  | .transactionWithoutCommand => Sys2Proof.Machine.execTransactionWithoutCommand s
  | .configureChannel args => Sys2Proof.Machine.execConfigureChannel args s
  | .configureCapture args => Sys2Proof.Machine.execConfigureCapture args s
  | .configureTrim args => Sys2Proof.Machine.execConfigureTrim args s
  | .configureNotices args => Sys2Proof.Machine.execConfigureNotices args s
  | .start args => Sys2Proof.Machine.execStart args s
  | .restart args => Sys2Proof.Machine.execRestart args s
  | .openSet args => Sys2Proof.Machine.execOpenSet args s
  | .addItem args => Sys2Proof.Machine.execAddItem args s
  | .submit args => Sys2Proof.Machine.execSubmit args s
  | .withdraw args => Sys2Proof.Machine.execWithdraw args s
  | .readOutcome args => Sys2Proof.Machine.execReadOutcome args s
  | .readCapture args => Sys2Proof.Machine.execReadCapture args s
  | .readNotice args => Sys2Proof.Machine.execReadNotice args s
  | .readTime args => Sys2Proof.Machine.execReadTime args s
  | .readMember args => Sys2Proof.Machine.execReadMember args s
  | .readChannel args => Sys2Proof.Machine.execReadChannel args s
  | .readSet args => Sys2Proof.Machine.execReadSet args s
  | .readStatus args => Sys2Proof.Machine.execReadStatus args s
  | .frameStartEdge => Sys2Proof.Machine.execFrameStartEdge s
  | .gapEnd => Sys2Proof.Machine.execGapEnd s
  | .breakDetected => Sys2Proof.Machine.execBreakDetected s
  | .breakEnd => Sys2Proof.Machine.execBreakEnd s
  | .crcError cause => Sys2Proof.Machine.execCrcError cause s
  | .unknownKind => Sys2Proof.Machine.execUnknownKind s
  | .malformedFrame => Sys2Proof.Machine.execMalformedFrame s
  | .ownNumberFrame kind => Sys2Proof.Machine.execOwnNumberFrame kind s
  | .sync src time => Sys2Proof.Machine.execSync src time s
  | .stage src dest set items => Sys2Proof.Machine.execStage src dest set items s
  | .call src set epoch targets => Sys2Proof.Machine.execCall src set epoch targets s
  | .commit src set => Sys2Proof.Machine.execCommit src set s
  | .abort src set reason => Sys2Proof.Machine.execAbort src set reason s
  | .decision src dest set outcome => Sys2Proof.Machine.execDecision src dest set outcome s
  | .reply src dest set verdict slots => Sys2Proof.Machine.execReply src dest set verdict slots s
  | .inquire src dest set => Sys2Proof.Machine.execInquire src dest set s
  | .missed src dest set => Sys2Proof.Machine.execMissed src dest set s
  | .presence src lock records slots join => Sys2Proof.Machine.execPresence src lock records slots join s
  | .attemptStart => Sys2Proof.Machine.execAttemptStart s
  | .arbitrationLoss bit => Sys2Proof.Machine.execArbitrationLoss bit s
  | .bitError => Sys2Proof.Machine.execBitError s
  | .muteEnd => Sys2Proof.Machine.execMuteEnd s
  | .frameSent => Sys2Proof.Machine.execFrameSent s
  | .replySlotStart => Sys2Proof.Machine.execReplySlotStart s
  | .reservationEnd => Sys2Proof.Machine.execReservationEnd s
  | .windowEnd => Sys2Proof.Machine.execWindowEnd s
  | .supervisionExpiry => Sys2Proof.Machine.execSupervisionExpiry s
  | .selfSource => Sys2Proof.Machine.execSelfSource s
  | .syncTimerExpiry => Sys2Proof.Machine.execSyncTimerExpiry s
  | .slewPiece => Sys2Proof.Machine.execSlewPiece s
  | .staleTimeout pos => Sys2Proof.Machine.execStaleTimeout pos s
  | .decisionTimeout pos => Sys2Proof.Machine.execDecisionTimeout pos s
  | .inquiryTimer pos => Sys2Proof.Machine.execInquiryTimer pos s
  | .epochApply pos => Sys2Proof.Machine.execEpochApply pos s
  | .epochExpiry pos => Sys2Proof.Machine.execEpochExpiry pos s
  | .selfRecordEpoch pos => Sys2Proof.Machine.execSelfRecordEpoch pos s
  | .proposerEpoch => Sys2Proof.Machine.execProposerEpoch s
  | .swapComplete channel => Sys2Proof.Machine.execSwapComplete channel s
  | .membershipIntervalEnd => Sys2Proof.Machine.execMembershipIntervalEnd s
  | .presenceCheck => Sys2Proof.Machine.execPresenceCheck s
  | .captureEdge input level => Sys2Proof.Machine.execCaptureEdge input level s
  | .frameEnd cutShort => Sys2Proof.Machine.execFrameEnd cutShort s
  | .sselAsserted => Sys2Proof.Machine.execSselAsserted s

end Sys2Proof.Machine
end

