-- ==== Sys2Proof/Machine/Step.lean ====
section
/-! DEFINITION. One step: the command at the front of the queue, or on an empty queue what the block does by itself. -/

namespace Sys2Proof.Machine

/-- What the block does on an empty queue: an act that is due, or else a tick of the local oscillator.
DESIGN CHOICE (log 3). -/
def autoStep (s : State) : Host.Outcome State Fault Refusal :=
  match chooseAct s with
  | some (.event i, t) => exec i t
  | some (.micro, t) => .next (plainMicro t)
  | none => .next (tick s)

/-- One step: first in, first out; on an empty queue the block's own act. DESIGN CHOICE (log 7). -/
def step (s : State) : Host.Outcome State Fault Refusal :=
  match s.pending with
  | c :: rest => exec c (s.setPending rest)
  | [] => autoStep s

/-- The state with the command that a word spells put at the front of its queue; unchanged where the word spells none. -/
def State.withFetchWord (s : State) (nbits w : Nat) : State :=
  match decodeTableWord nbits w with
  | some c => s.setPending (c :: s.pending)
  | none => s

end Sys2Proof.Machine
end

