-- ==== Sys2Proof/Safety.lean ====
section
/-! DEFINITION. What counts as a sound state: one property for each kind of state, each meant to be kept by every step. -/

namespace Sys2Proof.Machine

/-! ### The transmit queue (R115, R132) -/

/-- The open proposal's outstanding frame (R55). -/
def outstandingFrame (s : State) : Option Outstanding :=
  match s.prop.activity with
  | .active p => p.outstanding
  | _ => none

/-- The transmit queue holds at most 12 frames, in ascending order of arbitration value, each from this station, as is the
frame that waits for room in it. -/
def QueueSound (s : State) : Prop :=
  s.line.queue.length ≤ Config.queueLimit ∧
    s.line.queue.Pairwise (fun f g => f.arbitration ≤ g.arbitration) ∧
    (∀ f ∈ s.line.queue, f.src = s.ctl.number) ∧ ∀ out, outstandingFrame s = some out → out.frame.src = s.ctl.number

/-! ### Whose frames are queued (R55, R62, R78, R100, R124) -/

/-- The frame is of the kind. -/
def isKind (k : FrameKind) (f : Frame) : Bool := f.body.kind == k

/-- The kind of the outstanding frame in each open phase; none in VOTING (R53, R62). -/
def phaseKind : OpenPhase → Option FrameKind
  | .staging => some .stage
  | .calling => some .call
  | .voting => none
  | .committing => some .commit
  | .aborting => some .abort

/-- The parts of a proposal record that its phase fixes (R55, R64, R68). -/
def ProposalSound (p : Proposal) : Prop :=
  p.outstanding.map (·.frame.body.kind) = phaseKind p.phase ∧
    (p.abortReason.isSome = true ↔ p.phase = .aborting) ∧
    (p.phase = .staging ∨ p.phase = .calling → p.callSent = false) ∧
    (p.phase = .voting ∨ p.phase = .committing → p.callSent = true) ∧
    (p.callSent = true ↔ p.windowEnd.isSome = true)

/-- The open proposal is sound, when there is one. -/
def ActivitySound (a : Activity) : Prop :=
  match a with
  | .active p => ProposalSound p
  | _ => True

/-- A frame of a kind is queued exactly when its owner says so, and then it is one frame. -/
def OwnedOnce (s : State) (which : Frame → Bool) (owned : Bool) : Prop :=
  s.line.queue.any which = owned ∧ s.line.queue.countP which ≤ 1

/-- The attempt is of a queued frame, or of a REPLY, which is never queued (R124). -/
def AttemptSound (s : State) : Prop :=
  ∀ a, s.line.attempt = some a →
    (a.reply = false → a.entry ∈ s.line.queue) ∧ (a.reply = true → isKind .reply a.entry = true)

/-- The queue and its owners agree: one SYNC while own SYNC outstanding, in MEMBER and LOCKED (R92, R93); one PRESENCE
while own PRESENCE outstanding; one frame of the proposal, its outstanding frame, unless that waits for room (R62). -/
def OwnersSound (s : State) : Prop :=
  AttemptSound s ∧ (∀ f ∈ s.line.queue, isKind .reply f = false) ∧
    (∀ r ∈ s.line.replies, isKind .reply r.frame = true) ∧
    OwnedOnce s isSync s.time.ownSync ∧ (s.time.ownSync = true → s.time.lock = .locked ∧ s.ctl.state = .member) ∧
    OwnedOnce s (isKind .presence) s.memb.ownPresence ∧
    OwnedOnce s isProposalFrame ((outstandingFrame s).any (·.queued)) ∧
    (∀ out, outstandingFrame s = some out → out.queued = true → out.frame ∈ s.line.queue) ∧
    ActivitySound s.prop.activity

/-! ### Claims (R27, R33) -/

/-- The set id of the record at a position, when it has voted and holds an item for channel `c`. -/
def recordHolder (s : State) (i : Fin 4) (c : Fin 16) : Option SetId :=
  match s.part.table[i] with
  | some r => if r.state ≠ .staging ∧ r.items.any (onChannel c) = true then some r.set else none
  | none => none

/-- The set id of the swap that channel `c` waits for. -/
def swapHolder (s : State) (c : Fin 16) : Option SetId := s.chans[c].pending.map (·.set)

/-- The claim of channel `c` and what holds it agree: a voted record with an item for the channel, or its pending swap,
claims it for its set id and nothing else holds the channel; and a claim is held by one of them. -/
def ClaimSound (s : State) (c : Fin 16) : Prop :=
  (∀ i, recordHolder s i c ≠ none →
      s.part.claims[c] = recordHolder s i c ∧ swapHolder s c = none ∧ ∀ j, j ≠ i → recordHolder s j c = none) ∧
    (swapHolder s c ≠ none → s.part.claims[c] = swapHolder s c) ∧
    (s.part.claims[c] ≠ none → swapHolder s c = s.part.claims[c] ∨ ∃ i, recordHolder s i c = s.part.claims[c])

/-- Every channel's claim is sound. -/
def ClaimsSound (s : State) : Prop := ∀ c, ClaimSound s c

/-! ### The participant table, the staging store, the draft (R24, R25, R30, R54) -/

/-- A program that R4 calls valid: a HOLD, a PULSE of width at least 1, or a TRAIN of period at least 2 whose width is at least 1
and less than the period. -/
abbrev validProgram (p : Program) : Prop :=
  p.mode = .hold ∨ p.mode = .pulse ∧ 1 ≤ p.width.toNat ∨
    p.mode = .train ∧ 2 ≤ p.period.toNat ∧ 1 ≤ p.width.toNat ∧ p.width.toNat < p.period.toNat

/-- An item that R4 calls valid: its program is valid and its channel is 0 to 15. -/
abbrev validItem (it : Item) : Prop := validProgram it.program ∧ it.channel.toNat ≤ 15

/-- The draft's order: by target, and within one target by channel (R54). -/
abbrev draftOrder (x y : DraftItem) : Prop :=
  x.target.val < y.target.val ∨ x.target = y.target ∧ x.item.channel.toNat < y.item.channel.toNat

/-- The number of stations other than `own` that are targets of draft items (R54). -/
def otherTargetCount (own : Station) (items : List DraftItem) : Nat :=
  (List.finRange 32).countP fun st => decide (st ≠ own ∧ ∃ x ∈ items, x.target = st)

/-- The number of items that the participant records hold (R25). -/
def itemsHeld (s : State) : Nat :=
  ((List.finRange 4).map fun i => (s.part.table[i].map (·.items.length)).getD 0).sum

/-- Items in ascending channel order, one per channel, each valid. -/
def ItemsSound (items : List Item) : Prop :=
  items.Pairwise (fun a b => a.channel.toNat < b.channel.toNat) ∧ ∀ it ∈ items, validItem it

/-- A record's own fields agree: the epoch and the count are present once it has voted, and then the count is the number
of its items and neither flag is set; a STAGING or VOTED record has made no INQUIRE; an ARMED one has its timer stopped. -/
def RecordSound (r : SetRecord) : Prop :=
  ItemsSound r.items ∧ r.inquiries ≤ Config.inquiryLimit ∧
    (r.state = .staging → r.epoch = none ∧ r.expected = none ∧ r.windowEnd = none) ∧
    (r.state ≠ .staging →
      r.epoch.isSome = true ∧ r.expected = some r.items.length ∧ r.short = false ∧ r.invalid = false) ∧
    (r.state = .staging ∨ r.state = .voted → r.inquiries = 0) ∧
    (r.state = .armed → r.timer = none) ∧
    (r.self = true → r.timer = none ∧ r.windowEnd = none ∧ r.state ≠ .inDoubt)

/-- The record at a position of station `own` is sound, and the self record is of one of its own sets, when there is one. -/
def PositionSound (own : Station) (o : Option SetRecord) : Prop :=
  match o with
  | some r => RecordSound r ∧ (r.self = true ↔ r.set.proposer = own)
  | none => True

/-- Two positions do not hold records with the same set id (R24). -/
def IdsDistinct (a b : Option SetRecord) : Prop :=
  match a, b with
  | some r, some q => r.set ≠ q.set
  | _, _ => True

/-- Draft items in target and channel order without repeats, each valid, at most 32, with at most 8 other targets. -/
def DraftSound (own : Station) (items : List DraftItem) : Prop :=
  items.Pairwise draftOrder ∧ (∀ d ∈ items, validItem d.item) ∧ items.length ≤ Config.draftLimit ∧
    otherTargetCount own items ≤ Config.otherTargetLimit

/-- The draft is sound when the phase is DRAFTING. -/
def DraftingSound (s : State) : Prop :=
  match s.prop.activity with
  | .drafting d => DraftSound s.ctl.number d.items
  | _ => True

/-- The participant table and the staging store keep to R24, R25 and R30, with a sound draft behind the self record. -/
def StoreSound (s : State) : Prop :=
  (∀ i : Fin 4, PositionSound s.ctl.number s.part.table[i]) ∧
    (∀ i j : Fin 4, i ≠ j → IdsDistinct s.part.table[i] s.part.table[j]) ∧
    itemsHeld s ≤ Config.storeSlots ∧ DraftingSound s

/-- The recently-closed list holds at most four entries, no two with the same set id (R26). -/
def ClosedSound (s : State) : Prop :=
  s.part.closed.length ≤ Config.closedLimit ∧ (s.part.closed.map (·.set)).Nodup

/-! ### The decision log (R73) -/

/-- The decision log holds at most eight entries of this station's sets, no two with the same set id; the sequence
counter and the open proposal name a sequence of 1 to 255 (R59). -/
def LogSound (s : State) : Prop :=
  s.prop.log.length ≤ Config.logLimit ∧ (s.prop.log.map (·.set)).Nodup ∧
    (∀ e ∈ s.prop.log, e.set.proposer = s.ctl.number) ∧ s.prop.sequence ≠ 0 ∧
    match s.prop.activity with
    | .active p => p.set.proposer = s.ctl.number ∧ p.set.seq ≠ 0
    | _ => True

/-! ### The member table (R100, R101, R106) -/

/-- The entry of another station: its fields agree with its state. -/
def EntrySound (e : MemberEntry) : Prop :=
  (∀ n, e.records = some n → n ≤ Config.tableSize) ∧ (∀ n, e.slots = some n → n ≤ Config.storeSlots) ∧
    match e.state with
    | .absent => e.missed = 0 ∧ e.lastHeard = none ∧ e.lock = none ∧ e.records = none ∧ e.slots = none
    | .present => e.missed < Config.missedLimit ∧ e.lastHeard.isSome = true
    | .silent =>
      e.missed = Config.missedLimit ∧ e.lastHeard.isSome = true ∧ e.lock = none ∧ e.records = none ∧ e.slots = none
    | .self => False

/-- The entry of this station is SELF with its reset fields, and every other entry is sound. -/
def MembersSound (s : State) : Prop :=
  ∀ st : Station,
    if st = s.ctl.number then s.memb.entries[st] = { MemberEntry.initial with state := .self }
    else EntrySound s.memb.entries[st]

/-! ### The line's counts (R122, R129) -/

/-- Every counter is at most 65,535. -/
def CountersSound (c : Counters) : Prop :=
  c.crcErrors ≤ Config.counterLimit ∧ c.malformed ≤ Config.counterLimit ∧ c.unknownKind ≤ Config.counterLimit ∧
    c.arbitrationLosses ≤ Config.counterLimit ∧ c.bitErrors ≤ Config.counterLimit ∧ c.breaks ≤ Config.counterLimit ∧
    c.mutes ≤ Config.counterLimit ∧ c.anomalies ≤ Config.counterLimit

/-- The counts of the line stay in their ranges, the station is MUTED exactly while its failure count is 16, and MUTED it
has no attempt in progress. -/
def LineSound (s : State) : Prop :=
  CountersSound s.line.counters ∧ s.line.failures ≤ Config.failureLimit ∧
    (s.line.mute.isSome = true ↔ s.line.failures = Config.failureLimit) ∧
    (s.line.mute.isSome = true → s.line.attempt = none)

/-! ### The station states (R114, R117, R145, R158, R159, R162) -/

/-- Outside MEMBER the participant and proposer state hold their reset values, no swap waits, and the station has nothing
to send; in CONFIG the line is not observed, and elsewhere it is; a hard reset that lasts holds the station in CONFIG. -/
def StationSound (s : State) : Prop :=
  (s.ctl.state ≠ .member →
      s.part = Participant.initial ∧ s.prop = Proposer.initial ∧ (∀ c : Fin 16, s.chans[c].pending = none) ∧
        s.line.queue = [] ∧ s.line.attempt = none ∧ s.line.replies = [] ∧ s.line.reservation = none ∧
        s.line.mute = none ∧ s.time.ownSync = false ∧ s.memb.ownPresence = false ∧ s.memb.interval = none ∧
        s.memb.presence = none) ∧
    (s.line.observed = none ↔ s.ctl.state = .config) ∧ (s.ctl.resetting = true → s.ctl.state = .config)

/-! ### Network time and lock (R78, R88, R90, R97) -/

/-- A slew in progress has pieces left, at most 20, of one sign (R78, R84). -/
def SlewSound (sl : Slew) : Prop :=
  sl.remaining ≠ 0 ∧ sl.remaining.sign = sl.offset.sign ∧ sl.remaining.natAbs ≤ sl.offset.natAbs ∧
    (sl.offset.natAbs : Int) ≤ Config.slewLimit

/-- Network time runs outside CONFIG alone; the supervision timer is stopped exactly while UNLOCKED; the self-source timer
runs exactly while UNLOCKED in JOINING or MEMBER; a JOINING station has never been LOCKED; CONFIG is UNLOCKED at 0. -/
def TimeSound (s : State) : Prop :=
  (s.time.running = true ↔ s.ctl.state ≠ .config) ∧
    (s.time.supervision = none ↔ s.time.lock = .unlocked) ∧
    (s.time.selfSource.isSome = true ↔
      s.time.lock = .unlocked ∧ (s.ctl.state = .joining ∨ s.ctl.state = .member)) ∧
    (s.time.syncTimer.isSome = true ↔ s.ctl.state ≠ .config) ∧
    (s.ctl.state = .joining → s.time.lock = .unlocked ∨ s.time.lock = .acquiring) ∧
    (s.ctl.state = .config → s.time.lock = .unlocked ∧ s.time.now = 0 ∧ s.clock.microDue = false) ∧
    (∀ sl, s.time.slew = some sl → SlewSound sl)

/-! ### Captures (R145, R148, R149) -/

/-- The capture queue and its counts keep to their ranges; reference levels, each with the microsecond of its sample, exist
exactly while capture is active, and no sample is remembered outside it. -/
def CaptureSound (s : State) : Prop :=
  s.capt.queue.length ≤ Config.captureLimit ∧ s.capt.pendingLost ≤ Config.pendingLostLimit ∧
    s.capt.totalLost ≤ Config.counterLimit ∧ s.capt.pendingLost ≤ s.capt.totalLost ∧
    (∀ i : Fin 8, (s.capt.refs[i] = none ↔ s.ctl.state = .config) ∧
      (s.capt.sampled[i] = none ↔ s.ctl.state = .config)) ∧
    (s.ctl.state = .config → s.capt.queue = [] ∧ s.capt.totalLost = 0 ∧ s.capt.lastSample = none)

/-! ### Notices (R174) -/

/-- The stored flags hold no CAPTURE flag: it follows the capture queue. -/
def NoticesSound (s : State) : Prop := s.notes.flags.getLsbD 10 = false

end Sys2Proof.Machine
end

