-- ==== Sys2Proof/Certificates/Slice0/Obligations.lean ====
section
/-! DEFINITION. The statements for the provers: one definition each, `Obligations.<Name>`. -/

namespace Sys2Proof.Machine

/-- The state once a command has been taken: its response is stored and the transaction has ended (R140, R170). -/
def withResponse (s : State) (code : Byte) (status : Status) (results : List Byte) : State :=
  s.setPort { stored := { code := code, status := status, results := results }, transaction := none }

/-! ### The words of the rules, in terms of the state alone -/

/-- The free-slot count: 32 less the items that the records hold (R25). -/
def slotsLeft (s : State) : Nat := 32 - itemsHeld s

/-- The free-record count: 4 less the records held (R25). -/
def recordsLeft (s : State) : Nat := 4 - (List.finRange 4).countP fun i => s.part.table[i].isSome

/-- The record of a set id, at its position: the lowest that holds one, R24 allowing no second. -/
abbrev isRecord (s : State) (set : SetId) (i : Fin 4) (r : SetRecord) : Prop :=
  s.part.table[i] = some r ∧ r.set = set ∧ ∀ j, j < i → s.part.table[j].map (·.set) ≠ some set

/-- No record of a set id is held. -/
abbrev noRecord (s : State) (set : SetId) : Prop := ∀ i : Fin 4, s.part.table[i].map (·.set) ≠ some set

/-- The record is the self record of a set that has not been ARMED. -/
abbrev isOwn (set : SetId) (r : SetRecord) : Prop := r.set = set ∧ r.self = true ∧ r.state ≠ .armed

/-- The self record of a set, not ARMED, at its position: the lowest that holds one. -/
abbrev isSelfRecord (s : State) (set : SetId) (i : Fin 4) (r : SetRecord) : Prop :=
  s.part.table[i] = some r ∧ isOwn set r ∧ ∀ j, j < i → s.part.table[j].any (decide <| isOwn set ·) = false

/-- No self record of a set is held but an ARMED one. -/
abbrev noSelfRecord (s : State) (set : SetId) : Prop :=
  ∀ i : Fin 4, s.part.table[i].any (decide <| isOwn set ·) = false

/-- The recently-closed list holds the set id with the closure kind (R26). -/
abbrev closedFor (s : State) (set : SetId) (kind : ClosureKind) : Prop := ∃ e ∈ s.part.closed, e.set = set ∧ e.kind = kind

/-- The recently-closed list with a new entry: an older entry of its set id is gone, and then the oldest of four; the others stay
in their order before it (R26). -/
def closedWith (e : ClosedEntry) (closed : List ClosedEntry) : List ClosedEntry :=
  let others := closed.filter fun x => x.set ≠ e.set
  (if others.length < 4 then others else others.drop 1) ++ [e]

/-- The decision log with a new entry: an older entry of its set id is gone, and then the oldest of eight; the others stay in their
order before it (R73). -/
def loggedWith (e : LogEntry) (log : List LogEntry) : List LogEntry :=
  let others := log.filter fun x => x.set ≠ e.set
  (if others.length < 8 then others else others.drop 1) ++ [e]

/-- The entry that a proposal leaves in the decision log at its close, `abort` being absent for COMMITTED (R72). -/
def entryOf (p : Proposal) (abort : Option AbortReason) : LogEntry :=
  { set := p.set, epoch := p.epoch, abort := abort, targets := p.targets
    selfResult := if p.selfIncluded then some p.selfResult else none }

/-- The transmit queue once a frame has been offered to it: the frame at its place while it holds fewer than 12 (R115). -/
def queueOffered (f : Frame) (q : List Frame) : List Frame := if q.length < 12 then insertFrame f q else q

/-- A position of the participant table is written. -/
def withRecord (i : Fin 4) (o : Option SetRecord) (s : State) : State :=
  s.setPart { s.part with table := s.part.table.set i.val o }

/-- The items of a draft for a station. -/
def itemsFor (st : Station) (d : Draft) : List Item := (d.items.filter fun x => x.target = st).map (·.item)

/-- The number of items of a draft for a station. -/
def draftCount (st : Station) (d : Draft) : Nat := d.items.countP fun x => x.target = st

/-- The end of the dominant drive that aborts an attempt now: the end of the stop bit of the character in progress, each character
of the frame being 10 bit times long from its start edge (R116). When the last stop bit has completed, the drive covers the half
microsecond that begins now: the model's choice (log 34). -/
def driveEnd (s : State) (a : Attempt) : Instant :=
  let character := 10 * bitTime s.ctl.rate
  if s.clock.osc < a.start + (6 + (bodyBytes a.sent.body).length) * character then
    a.start + ((s.clock.osc - a.start) / character + 1) * character
  else s.clock.osc + 1

/-! ### Responses, checks and deliveries -/

/-- The one argument length of each command code, in code order (R139). -/
def argumentLengths : List Nat := [0, 3, 2, 1, 2, 0, 0, 6, 15, 0, 0, 1, 0, 0, 0, 1, 1, 1, 0]

/-- The edge selections in the order of their codes (R139). -/
def selectionCodes : Vector EdgeSelection 4 := #v[.none, .rising, .falling, .both]

/-- The member table at reset: this station SELF, every other ABSENT (R101, R112). -/
def resetEntries (own : Station) : Vector MemberEntry 32 :=
  Vector.ofFn fun st =>
    { state := if st = own then .self else .absent, missed := 0, heard := false, lastHeard := none, lock := none,
      records := none, slots := none }

/-- The checks of R58 in their order, each with the status it fails with. -/
def submitChecks (s : State) (d : Draft) : List (Bool × Status) :=
  let others := d.items.filter fun x => x.target ≠ s.ctl.number
  let own := draftCount s.ctl.number d
  let lead := sdiff d.epoch s.time.now
  [ (decide (s.ctl.state = .member) && s.memb.announced, .badState),
    (decide (s.time.lock = .locked), .notLocked),
    (!d.items.isEmpty, .badArgument),
    (others.all fun x =>
      decide (s.memb.entries[x.target].state = .present) && decide (s.memb.entries[x.target].lock = some .locked),
      .targetAbsent),
    ((others.all fun x => s.memb.entries[x.target].slots.any (draftCount x.target d ≤ ·)) &&
      (own == 0 || (decide (0 < recordsLeft s) && decide (own ≤ slotsLeft s))), .noRoom),
    (decide (((4096 * bitTime s.ctl.rate / 2 : Nat) : Int) ≤ lead), .late),
    (decide (lead ≤ 2147483648), .far) ]

/-- A frame that this station does not transmit is in progress on the line. -/
def inReception (s : State) : Prop := s.line.attempt = none ∧ s.line.observed = some .frame

/-- The line after the end of the frame in progress: GAP, counting from now (R114). -/
def afterFrame (s : State) : State := s.setLine { s.line with observed := some (.gap 0), since := s.clock.osc }

/-- A station heard, now (R102): PRESENT, with a MEMBER notice when it was ABSENT or SILENT. -/
def heardFrom (src : Station) (s : State) : State :=
  let e := s.memb.entries[src]
  let entries := s.memb.entries.set src.val
    { e with state := .present, missed := 0, heard := true, lastHeard := some s.time.now }
  { s with
    memb := { s.memb with entries := entries }
    notes := if e.state = .absent ∨ e.state = .silent then { s.notes with flags := s.notes.flags ||| 256 } else s.notes }

/-- One more anomaly counted (R129). -/
def oneAnomaly (s : State) : State :=
  s.setLine { s.line with
    counters := { s.line.counters with anomalies := min (s.line.counters.anomalies + 1) 65535 } }

/-- A MEMBER station with a frame of another station in reception. -/
def memberReceives (s : State) (src : Station) : Prop :=
  s.ctl.state = .member ∧ inReception s ∧ src ≠ s.ctl.number

/-- The state in which the owner of a frame from `src` takes it: the frame has ended and its source has been heard. -/
def delivered (src : Station) (s : State) : State := heardFrom src (afterFrame s)

/-- The lock state after a SYNC, by the state before and whether the correction is a slew (R86). -/
def lockTable : LockState → Bool → LockState
  | .unlocked, _ => .acquiring
  | .acquiring, true => .locked
  | .acquiring, false => .acquiring
  | .locked, _ => .locked
  | .holdover, _ => .locked

/-- Checks 2 to 8 of R32 in their order, each with the reason it fails with. -/
def voteTests (s : State) (r : SetRecord) (count : Nat) (epoch : NetTime) :
    List (Bool × RefuseReason) :=
  let lead := sdiff epoch s.time.now
  [ (!r.short, .noRoom),
    (!r.invalid, .badItem),
    (decide (r.items.length = count), .incomplete),
    (decide (s.time.lock = .locked), .notLocked),
    (decide (((1024 * bitTime s.ctl.rate / 2 : Nat) : Int) ≤ lead), .late),
    (decide (lead ≤ 2147483648), .far),
    ((List.finRange 16).all fun c => !(r.items.any (onChannel c) && s.part.claims[c].isSome), .conflict) ]

/-- What a CALL of n targets from another station leaves before the vote: the source heard and the window reserved (R123). -/
def called (src : Station) (n : Nat) (s : State) : State :=
  let e := s.clock.osc + (12 + 128 * n) * bitTime s.ctl.rate
  (delivered src s).setLine
    { (delivered src s).line with
      reservation := some (match s.line.reservation with | some e' => max e e' | none => e) }

/-- The REPLY to a CALL, handed over with the start of slot k (R35, R124). -/
def handsReply (set : SetId) (k : Nat) (verdict : Verdict) (s : State) : State :=
  s.setLine { s.line with replies := s.line.replies ++
    [{ frame :=
         { src := s.ctl.number, dest := some set.proposer, body := .reply set verdict (BitVec.ofNat 8 (slotsLeft s)) }
       start := s.clock.osc + (12 + 128 * k) * bitTime s.ctl.rate }] }

/-- The last stop bit of the attempt's frame has been completed: (6 + L) characters of 10 bit times after its start edge. -/
def sentNow (s : State) (a : Attempt) : Prop :=
  s.line.attempt = some a ∧
    a.start + 10 * (6 + (bodyBytes a.sent.body).length) * bitTime s.ctl.rate ≤ s.clock.osc

/-- What every completed frame of the queue leaves on the line: the entry gone, no attempt, no failures in a row, GAP. -/
def lineAfterSending (s : State) (f : Frame) : LineController :=
  { s.line with
    queue := s.line.queue.erase f
    attempt := none
    failures := 0
    observed := some (.gap 0)
    since := s.clock.osc }

/-- A freed queue entry gives a frame of the open proposal that waits for room its place in the queue (R62, R116). -/
def offerWaiting (s : State) : State :=
  match s.prop.activity with
  | .active p =>
    match p.outstanding with
    | some { frame := f, queued := false } =>
      if s.line.queue.length < 12 then
        (s.setLine { s.line with queue := insertFrame f s.line.queue }).setProp
          { s.prop with activity := .active { p with outstanding := some { frame := f, queued := true } } }
      else s
    | _ => s
  | _ => s

/-- This station's outstanding SYNC withdrawn from the queue, while no attempt of this station is in progress (R87, R116). -/
def withoutOwnSync (s : State) : State :=
  let u := (s.setTime { s.time with ownSync := false }).setLine { s.line with queue := s.line.queue.eraseP isSync }
  if s.time.ownSync then if s.line.queue.any isSync then offerWaiting u else u else s

/-- The items of the next STAGE frame, of those not yet sent: the first ones, as many as have the same target, at most four
(R61). -/
def isStageGroup (remaining group : List DraftItem) : Prop :=
  group <+: remaining ∧ group ≠ [] ∧ group.length ≤ 4 ∧ (∀ x ∈ group, ∀ y ∈ group, x.target = y.target) ∧
    (group.length < 4 → ∀ x ∈ group, ∀ y, remaining[group.length]? = some y → y.target ≠ x.target)

/-- The frame is the open proposal's and waits for room in the transmit queue (R62). -/
def waitsForRoom (s : State) (f : Frame) : Prop :=
  ∃ out, outstandingFrame s = some out ∧ out.queued = false ∧ out.frame = f

/-- An outstanding frame of the proposal stays outstanding; one that waited for room counts as queued exactly when the transmit queue
has one more of it (R62). -/
def frameStays (before after : Option Outstanding) (s t : State) : Prop :=
  after.map (·.frame) = before.map (·.frame) ∧ ((∀ o, before = some o → o.queued = true) → after = before) ∧
    ∀ o, before = some o → o.queued = false → isProposalFrame o.frame = true →
      (after = some { o with queued := true } ↔ t.line.queue.count o.frame = s.line.queue.count o.frame + 1)

/-- The draft, the open proposal, the sequence and the log stay, but that the proposal's frame that waits for room in the transmit
queue may have found it there (R62, R116). -/
def proposerStays (s t : State) : Prop :=
  ((∀ p, s.prop.activity ≠ .active p) → t.prop = s.prop) ∧
    ∀ p, s.prop.activity = .active p → ∃ out, frameStays p.outstanding out s t ∧
      t.prop = { s.prop with activity := .active { p with outstanding := out } }

/-- In the queue `q` the frames of the transmit queue of `s`, but those that `gone` names, stand in their order, and no other. -/
def keepsQueued (gone : Frame → Prop) (s : State) (q : List Frame) : Prop :=
  ∀ keep : Frame → Bool, (∀ f, keep f = true → ¬ gone f) → q.filter keep = s.line.queue.filter keep

/-- In the queue `q` no frame that `which` names is left, and every other stands as in the transmit queue of `s`, but that the
proposal's frame that waits for room has taken its place among them when a frame has gone (R62, R115, R116). -/
def withdraws (which : Frame → Prop) (s : State) (q : List Frame) : Prop :=
  (∀ f ∈ q, ¬ which f) ∧ keepsQueued (fun f => which f ∨ waitsForRoom s f) s q ∧
    ((∀ f ∈ s.line.queue, ¬ which f) → q = s.line.queue) ∧
    ∀ f, waitsForRoom s f → ¬ which f → s.line.queue.length ≤ 12 → (∃ g ∈ s.line.queue, which g) →
      q.count f = s.line.queue.count f + 1 ∧
      (s.line.queue.Pairwise (fun x y => x.arbitration ≤ y.arbitration) →
        ∀ keep : Frame → Bool, (∀ g, keep g = true ↔ ¬ which g) → q = insertFrame f (s.line.queue.filter keep))

/-- A frame withdrawn while it is on the line: the attempt has ended, and the line is driven dominant from now to the end of the
character in progress (R116). -/
def abortedOnLine (which : Frame → Prop) (s t : State) : Prop :=
  ∀ a, s.line.attempt = some a → a.reply = false → a.entry ∈ s.line.queue → which a.entry →
    t.line.attempt = none ∧ t.line.driveUntil = some (driveEnd s a) ∧ (s.ctl.resetting = false → ltxDominant t = true)

/-- An attempt with a REPLY, or with a frame that `gone` does not name, goes on, and no drive of an abort begins (R116). -/
def attemptStays (gone : Frame → Prop) (s t : State) : Prop :=
  (∀ a, s.line.attempt = some a → a.reply = true ∨ ¬ gone a.entry) →
    t.line.attempt = s.line.attempt ∧ t.line.driveUntil = s.line.driveUntil

/-- A proposal's ABORT is outstanding and is the only frame of a proposal in the queue, where it takes its place when there is
room beside the other owners' frames; else it waits. An INQUIRE for the set may leave the queue with it (R37, R62, R68, R115). -/
def abortQueued (p : Proposal) (abort : Frame) (s t : State) : Prop :=
  let others := s.line.queue.filter (!isProposalFrame ·)
  ∃ queued, outstandingFrame t = some { frame := abort, queued := queued } ∧ (queued = true ↔ abort ∈ t.line.queue) ∧
    (∀ f ∈ t.line.queue, isProposalFrame f = true → f = abort) ∧ (others.length < 12 → abort ∈ t.line.queue) ∧
    ((∀ f ∈ s.line.queue, isInquireFor p.set f = false) → t.line.queue = queueOffered abort others)

/-- At a network time the proposal's epoch has been reached, in a phase that it ends (R67 to R69). -/
def endsPhase (now : NetTime) (p : Proposal) : Prop :=
  0 ≤ sdiff now p.epoch ∧
    (p.phase = .staging ∨ p.phase = .calling ∨ p.phase = .committing ∨ p.phase = .aborting ∧ p.callSent = true)

/-- The open proposal's epoch has been reached in a phase that it ends. -/
def meetsEpoch (s : State) : Prop := ∃ p, s.prop.activity = .active p ∧ endsPhase s.time.now p

/-- What a capture sample taken now carries (R146, R147). -/
def presentSample (s : State) : Sample := { instant := s.clock.osc, time := s.time.now, quality := s.time.lock }

/-- No earlier sample has shown an edge in this microsecond: a microsecond has one sample of all inputs (R145, R147). -/
def sampleStands (s : State) : Prop :=
  ∀ p, s.capt.lastSample = some p → p.instant / 2 ≠ s.clock.osc / 2 ∨ p = presentSample s

/-- The record at a position is in a state in which it has waited for n bit times. -/
def waited (s : State) (i : Fin 4) (state : RecordState) (n : Nat) (which : SetRecord → Prop) : Prop :=
  ∃ (r : SetRecord) (start : Instant), s.part.table[i] = some r ∧ r.state = state ∧ which r ∧ r.timer = some start ∧
    start + n * bitTime s.ctl.rate ≤ s.clock.osc

/-- The record at a position has its epoch reached. -/
def atEpoch (s : State) (i : Fin 4) (which : SetRecord → Prop) : Prop :=
  ∃ (r : SetRecord) (e : NetTime), s.part.table[i] = some r ∧ r.epoch = some e ∧ which r ∧ 0 ≤ sdiff s.time.now e

/-- The record waits for its decision. -/
def undecided (r : SetRecord) : Prop := r.state = .voted ∨ r.state = .inDoubt

/-- The condition of each event that time brings, by its own rule; the end of a gap and the start of an attempt apart. -/
def eventDue (s : State) (e : Instr) : Prop :=
  match e with
  | .slewPiece => s.clock.microDue = true ∧ ∃ sl, s.time.slew = some sl ∧
      (sl.offset.natAbs - sl.remaining.natAbs + 1) * 100000 / sl.offset.natAbs ≤ sl.progress + 1
  | .muteEnd => ∃ n, s.line.mute = some n ∧ 100000 ≤ n
  | .replySlotStart => ∃ r ∈ s.line.replies, r.start ≤ s.clock.osc
  | .reservationEnd => ∃ e, s.line.reservation = some e ∧ e ≤ s.clock.osc
  | .windowEnd => ∃ p e, s.prop.activity = .active p ∧ p.phase = .voting ∧ p.windowEnd = some e ∧ e ≤ s.clock.osc
  | .frameSent => ∃ a, sentNow s a ∧ ¬ (a.reply = false ∧ a.entry.body.kind = .commit ∧ meetsEpoch s)
  | .supervisionExpiry => ∃ n, s.time.supervision = some n ∧
      (s.time.lock = .locked ∧ 300000 ≤ n ∨ s.time.lock = .holdover ∧ 2000000 ≤ n ∨ s.time.lock = .acquiring ∧ 300000 ≤ n)
  | .selfSource => (s.ctl.state = .joining ∨ s.ctl.state = .member) ∧ s.time.lock = .unlocked ∧
      ∃ n, s.time.selfSource = some n ∧ 500000 ≤ n
  | .syncTimerExpiry => ∃ n, s.time.syncTimer = some n ∧ 100000 ≤ n
  | .staleTimeout i => waited s i .staging 65536 (·.self = false)
  | .decisionTimeout i => waited s i .voted 2048 (·.self = false)
  | .inquiryTimer i => waited s i .inDoubt 2048 (·.inquiries < 3)
  | .epochApply i => atEpoch s i (·.state = .armed)
  | .epochExpiry i => atEpoch s i fun r => undecided r ∧ r.self = false
  | .selfRecordEpoch i => atEpoch s i fun r => undecided r ∧ r.self = true
  | .proposerEpoch => meetsEpoch s
  | .swapComplete c => ∃ w, s.chans[c].pending = some w ∧ 0 ≤ sdiff s.time.now w.boundary
  | .membershipIntervalEnd => ∃ n, s.memb.interval = some n ∧ 100000 ≤ n
  | .presenceCheck => ∃ n, s.memb.presence = some n ∧ 100000 ≤ n
  | .captureEdge i level => s.ctl.state ≠ .config ∧ level = s.capt.pins[i] ∧
      (∃ before, s.capt.refs[i] = some before ∧ before ≠ level) ∧ s.capt.sampled[i] ≠ some (s.clock.osc / 2) ∧
      sampleStands s
  | _ => False

/-- Every block at its hard-reset values (R21, R51, R77, R99, R112, R130, R153, R165, R179), with the Station Controller as
given. The clock's fields and the capture pins are the model's own (logs 2 and 3). -/
def afterHardReset (s : State) (ctl : StationController) : State :=
  { clock := { s.clock with microDue := false }
    ctl := ctl
    chans := Vector.replicate 16
      { active := holdProgram .low, anchor := 0, pending := none, safe := .low, policy := .forceSafe }
    part := { table := Vector.replicate 4 none, closed := [], claims := Vector.replicate 16 none }
    prop := { activity := .idle, sequence := 1, log := [] }
    time :=
      { now := 0, running := false, lock := .unlocked, slew := none, supervision := none, syncTimer := none,
        selfSource := none, sample := none, lastStep := none, ownSync := false, trim := 0 }
    memb :=
      { entries := resetEntries ctl.number, interval := none, presence := none, announced := false, ownPresence := false }
    line :=
      { queue := [], attempt := none, observed := none, since := 0, frameStart := none, driveUntil := none,
        reservation := none, replies := [], failures := 0, mute := none, counters := ⟨0, 0, 0, 0, 0, 0, 0, 0⟩ }
    capt :=
      { selections := Vector.replicate 8 .none, pins := s.capt.pins, refs := Vector.replicate 8 none,
        sampled := Vector.replicate 8 none, lastSample := none, queue := [], pendingLost := 0, totalLost := 0 }
    port :=
      { stored := { code := 0, status := .ok, results := [] }
        transaction := s.port.transaction.map fun _ => .spoiled }
    notes := { flags := 0, enable := 2047 }
    pending := s.pending }

/-- The blocks that an effect inside the station leaves as they were: straps and station state, captures, the port, the
waiting commands, the enable set. -/
def bystanders (s t : State) : Prop :=
  t.ctl = s.ctl ∧ t.capt = s.capt ∧ t.port = s.port ∧ t.pending = s.pending ∧ t.notes.enable = s.notes.enable

/-- The parts of the Line Controller that a change of the queue, with its attempt, leaves as they were. -/
def lineBystanders (s t : State) : Prop :=
  t.line.observed = s.line.observed ∧ t.line.since = s.line.since ∧ t.line.frameStart = s.line.frameStart ∧
    t.line.reservation = s.line.reservation ∧ t.line.replies = s.line.replies ∧ t.line.failures = s.line.failures ∧
    t.line.mute = s.line.mute ∧ t.line.counters = s.line.counters

/-- Every other notice is pending exactly when it was. -/
def raisesOnly (ns : List Notice) (s t : State) : Prop := ∀ n, n ∉ ns → isPending n t = isPending n s

/-- At a network time a record past STAGING has its epoch reached (R42, R43, R48). -/
def recordMet (now : NetTime) (r : SetRecord) : Prop :=
  r.state ≠ .staging ∧ ∃ e, r.epoch = some e ∧ 0 ≤ sdiff now e

/-- At a network time the record goes with its proposal: the undecided self record of an open proposal whose phase ends (R48). -/
def goesWithProposal (now : NetTime) (s : State) (r : SetRecord) : Prop :=
  r.self = true ∧ r.state ≠ .armed ∧ ∃ p, s.prop.activity = .active p ∧ p.set = r.set ∧ endsPhase now p

/-- The records that network time `now` has met are gone, with their notices and no other, and each undecided one of another station's
set has left its closed entry, one after the other in some order (R26, R42, R43, R48). -/
def recordsMeet (now : NetTime) (s t : State) : Prop :=
  (∀ i : Fin 4,
    (s.part.table[i] = none → t.part.table[i] = none) ∧
    ∀ r, s.part.table[i] = some r →
      (recordMet now r ∨ goesWithProposal now s r → t.part.table[i] = none) ∧
      (¬ recordMet now r → ¬ goesWithProposal now s r → t.part.table[i] = some r) ∧
      (recordMet now r → r.state = .armed → isPending .setApplied t = true) ∧
      (recordMet now r ∧ r.state ≠ .armed ∨ goesWithProposal now s r ∧ r.state = .voted →
        isPending .setDropped t = true)) ∧
  ∃ expired : List SetId, expired.Nodup ∧
    (∀ set, set ∈ expired ↔ ∃ (i : Fin 4) (r : SetRecord), s.part.table[i] = some r ∧ r.set = set ∧ recordMet now r ∧
      r.state ≠ .armed ∧ r.self = false) ∧
    t.part.closed = expired.foldl
      (fun closed set => closedWith { set := set, kind := .expired, missedSent := false } closed) s.part.closed

/-- What network time `now` makes of the channels and their claims: due swaps complete, each item of an ARMED record that it has
met takes its channel, and every other channel is left (R10, R11, R13, R14, R16, R27, R42). -/
def channelsMeet (now : NetTime) (s t : State) : Prop :=
  ∀ c : Fin 16,
    let kept := t.chans[c] = s.chans[c]
    (∀ w, s.chans[c].pending = some w →
      (sdiff now w.boundary < 0 → kept ∧ t.part.claims[c] = s.part.claims[c]) ∧
      (0 ≤ sdiff now w.boundary →
        t.chans[c] = { s.chans[c] with active := w.program, anchor := w.boundary, pending := none } ∧
          t.part.claims[c] = none ∧ isPending .setApplied t = true)) ∧
    (s.chans[c].pending = none →
      (∀ (i : Fin 4) (r : SetRecord) (e : NetTime) (it : Item), s.part.table[i] = some r → r.state = .armed →
        r.epoch = some e → 0 ≤ sdiff now e → r.items.find? (onChannel c) = some it →
        let b := if it.load = .atEpoch then e else boundaryOf s.chans[c].active s.chans[c].anchor e
        (0 ≤ sdiff now b →
          t.chans[c] = { s.chans[c] with active := it.program, anchor := b } ∧ t.part.claims[c] = none) ∧
        (sdiff now b < 0 →
          t.chans[c] = { s.chans[c] with pending := some { program := it.program, boundary := b, set := r.set } } ∧
            t.part.claims[c] = some r.set)) ∧
      ((∀ (i : Fin 4) (r : SetRecord), s.part.table[i] = some r → r.items.any (onChannel c) = true →
          r.state ≠ .armed ∨ ¬ recordMet now r) → kept) ∧
      (∀ (i : Fin 4) (r : SetRecord), s.part.table[i] = some r → r.items.any (onChannel c) = true →
        r.state = .voted ∨ r.state = .inDoubt → recordMet now r ∨ goesWithProposal now s r → t.part.claims[c] = none) ∧
      ((∀ (i : Fin 4) (r : SetRecord), s.part.table[i] = some r → r.items.any (onChannel c) = true →
          r.state = .staging ∨ ¬ recordMet now r ∧ ¬ goesWithProposal now s r) →
        t.part.claims[c] = s.part.claims[c]))

/-- The frames that a SYNC whose step carries network time to `now` withdraws: this station's outstanding SYNC, and the INQUIREs of
the records that go undecided (R37, R43, R87). -/
def withdrawnByStep (now : NetTime) (s : State) (f : Frame) : Prop :=
  (s.time.ownSync = true ∧ isSync f = true) ∨
    ∃ (i : Fin 4) (r : SetRecord), s.part.table[i] = some r ∧ r.state ≠ .armed ∧
      (recordMet now r ∨ goesWithProposal now s r) ∧ isInquireFor r.set f = true

/-- What network time `now` makes of the open proposal: ABORTING with LATE and its ABORT in STAGING and CALLING, closed in
COMMITTING and, once the CALL has been sent, in ABORTING; else it stays, but that its frame may have found room. The ABORT takes its
place in the queue when there is room, or when a frame that the step withdraws has left it (R62, R67 to R69, R72, R73). -/
def proposalMeets (now : NetTime) (s t : State) : Prop :=
  ((∀ p, s.prop.activity = .active p → ¬ endsPhase now p) → proposerStays s t) ∧
  ∀ p, s.prop.activity = .active p →
    (endsPhase now p → p.phase = .staging ∨ p.phase = .calling →
      let abort : Frame := { src := s.ctl.number, dest := none, body := .abort p.set .late }
      let others := s.line.queue.filter (!isProposalFrame ·)
      ∃ queued, t.prop =
          { s.prop with
            activity := .active { p with
              phase := .aborting, abortReason := some .late, outstanding := some { frame := abort, queued := queued } } } ∧
        (s.line.queue.countP isProposalFrame ≤ 1 →
          (queued = true ↔ abort ∈ t.line.queue) ∧ (∀ f ∈ t.line.queue, isProposalFrame f = true → f = abort) ∧
            (others.length < 12 ∨ others.length ≤ 12 ∧ (∃ f ∈ s.line.queue, withdrawnByStep now s f) →
              abort ∈ t.line.queue))) ∧
    ∀ reason, endsPhase now p → p.phase = .committing ∧ reason = .late ∨ p.phase = .aborting ∧ p.abortReason = some reason →
      t.prop = { s.prop with activity := .idle, log := loggedWith (entryOf p (some reason)) s.prop.log } ∧
        isPending .outcome t = true ∧ (s.line.queue.countP isProposalFrame ≤ 1 → t.line.queue.any isProposalFrame = false)

/-- What such a SYNC makes of the transmit queue: those frames go and every other stays; the frames of a proposal whose phase ends
are `proposalMeets`'s. -/
def queueMeets (now : NetTime) (s t : State) : Prop :=
  s.line.queue.countP isSync ≤ 1 → (∀ set, s.line.queue.countP (isInquireFor set) ≤ 1) →
    (∀ out, outstandingFrame s = some out → isProposalFrame out.frame = true) →
    (∀ f ∈ t.line.queue, ¬ withdrawnByStep now s f) ∧
      keepsQueued (fun f => withdrawnByStep now s f ∨ isProposalFrame f = true) s t.line.queue ∧
      ((∀ p, s.prop.activity = .active p → ¬ endsPhase now p) → withdraws (withdrawnByStep now s) s t.line.queue)

/-- What every frame sent from the queue leaves beside its sent report: the line, the presence timer, the other blocks. -/
def sentFrom (s t : State) : Prop :=
  t.line.attempt = none ∧ t.line.failures = 0 ∧ t.line.observed = some (.gap 0) ∧ t.line.since = s.clock.osc ∧
    t.line.frameStart = s.line.frameStart ∧ t.line.replies = s.line.replies ∧ t.line.mute = s.line.mute ∧
    t.line.driveUntil = s.line.driveUntil ∧ t.line.counters = s.line.counters ∧
    t.memb = { s.memb with presence := s.memb.presence.map fun _ => 0 } ∧
    t.clock = s.clock ∧ t.chans = s.chans ∧ t.time = s.time ∧ bystanders s t

/-- The self record of a set goes with its claims, every other position and the recently-closed list stay, and SET_DROPPED
is raised when it had voted; with no self record the table and the claims stay too (R48). -/
def freesSelf (set : SetId) (s t : State) : Prop :=
  t.part.closed = s.part.closed ∧
    (noSelfRecord s set → t.part.table = s.part.table ∧ t.part.claims = s.part.claims) ∧
    ∀ (i : Fin 4) (r : SetRecord), isSelfRecord s set i r →
      t.part.table[i] = none ∧ (∀ j, j ≠ i → t.part.table[j] = s.part.table[j]) ∧
        (r.state = .voted → isPending .setDropped t = true) ∧
        ∀ c : Fin 16, t.part.claims[c] =
          if r.state ≠ .staging ∧ r.items.any (onChannel c) = true ∧ s.part.claims[c] = some r.set then none
          else s.part.claims[c]

/-- The proposal `q` goes to ABORTING with a reason, and its ABORT takes its place in the queue (R68). -/
def entersAborting (q : Proposal) (reason : AbortReason) (queue : List Frame) (s t : State) : Prop :=
  let abort : Frame := { src := s.ctl.number, dest := none, body := .abort q.set reason }
  t.line.queue = insertFrame abort queue ∧ t.prop = { s.prop with
    activity := .active { q with
      phase := .aborting, abortReason := some reason, outstanding := some { frame := abort, queued := true } } }

/-- The codes of Chapter 8 (section 8.2, R132, R139 to R141): each list of values in code order. -/
def codesOfChapter8 : Prop :=
  let kinds : List FrameKind := [.sync, .call, .commit, .abort, .reply, .decision, .stage, .inquire, .missed, .presence]
  let reasons : List RefuseReason := [.unknownSet, .noRoom, .badItem, .incomplete, .notLocked, .late, .far, .conflict]
  kinds.map FrameKind.code = List.range 10 ∧ kinds.map FrameKind.frameClass = [0, 1, 1, 1, 1, 1, 2, 2, 2, 3] ∧
  reasons.map RefuseReason.code = [1, 2, 3, 4, 5, 6, 7, 8] ∧
  (Verdict.ready.code = 0 ∧ ∀ r, (Verdict.refused r).code = r.code) ∧
  [AbortReason.refused, .noReply, .late, .withdrawn, .lockLost, .targetAbsent, .selfRefused].map AbortReason.code =
    [1, 2, 3, 4, 5, 6, 7] ∧
  [DecisionOutcome.committed, .aborted, .unknown].map DecisionOutcome.code = [1, 2, 3] ∧
  [LockState.unlocked, .acquiring, .locked, .holdover].map LockState.code = [0, 1, 2, 3] ∧
  [Level.low, .high].map Level.code = [0, 1] ∧ [Mode.hold, .pulse, .train, .reserved].map Mode.code = [0, 1, 2, 3] ∧
  [LineRate.k250, .k500, .m1, .m2].map LineRate.code = [0, 1, 2, 3] ∧
  [LossPolicy.forceSafe, .continue].map LossPolicy.code = [0, 1] ∧ [Edge.rising, .falling].map Edge.code = [1, 2] ∧
  [Status.ok, .busy, .badState, .badArgument, .full, .empty, .notLocked, .targetAbsent, .noRoom, .late, .far].map
    Status.code = List.range 11 ∧
  [StationState.config, .joining, .member, .faulted].map StationState.code = [0, 1, 2, 3] ∧
  [MemberState.absent, .present, .silent, .self].map MemberState.code = [0, 1, 2, 3] ∧
  [RecordState.staging, .voted, .inDoubt, .armed].map RecordState.code = [0, 1, 2, 3] ∧
  [TargetResult.pending, .ready, .noReply, .missed].map (fun r => (r.code, r.reason)) = [(0, 0), (1, 0), (3, 0), (4, 0)] ∧
  (∀ r, (TargetResult.refused r).code = 2 ∧ (TargetResult.refused r).reason = r.code) ∧
  Activity.idle.code = 0 ∧ (∀ d, (Activity.drafting d).code = 1) ∧
  ∀ p : Proposal, [OpenPhase.staging, .calling, .voting, .committing, .aborting].map
    (fun phase => (Activity.active { p with phase := phase }).code) = [2, 3, 4, 5, 6]

/-- The layouts of numbers, items, frames and their CRC (R132 to R135, section 8.2). -/
def layoutsOfChapter8 : Prop :=
  let char (n : Nat) : Byte := BitVec.ofNat 8 n
  let setId (set : SetId) : List Byte := [char set.proposer.val, set.seq]
  (∀ n v : Nat, beBytes n v = (List.range n).map fun k => char (v / 256 ^ (n - 1 - k))) ∧
  (∀ b : Byte, byteBits b = (List.range 8).map fun k => b.getLsbD (7 - k)) ∧
  (∀ p : Program, programBytes p =
    [char (64 * p.mode.code + 32 * p.active.code + 16 * p.rest.code)] ++ beBytes 4 p.start.toNat ++
      beBytes 3 p.period.toNat ++ beBytes 3 p.width.toNat ++ beBytes 2 p.count.toNat) ∧
  (∀ it : Item, itemBytes it =
    char ((match it.load with | .atEpoch => 0 | .atBoundary => 128) + it.channel.toNat) :: programBytes it.program) ∧
  (∀ body : Body, bodyBytes body = match body with
    | .sync time => beBytes 6 time.toNat
    | .call set epoch list => setId set ++ beBytes 6 epoch.toNat ++ [char list.length] ++
        (list.map fun e => [char e.station.val, e.count]).flatten
    | .commit set => setId set
    | .abort set reason => setId set ++ [char reason.code]
    | .reply set verdict slots => setId set ++ [char verdict.code, slots]
    | .decision set outcome => setId set ++ [char outcome.code]
    | .stage set items => setId set ++ [char items.length] ++ (items.map itemBytes).flatten
    | .inquire set => setId set
    | .missed set => setId set
    | .presence lock records slots join => [char lock.code, records, slots, if join then 1 else 0]) ∧
  (∀ f : Frame, f.arbitration = 32 * f.body.kind.frameClass + f.src.val) ∧
  (∀ f : Frame,
    let front := [char f.arbitration, char f.body.kind.code, f.dest.elim 255 fun d => char d.val,
      char (bodyBytes f.body).length] ++ bodyBytes f.body
    encodeFrame f = front ++ beBytes 2 (crcOf front).toNat) ∧
  crcOf [] = 65535 ∧
  ∀ (bs : List Byte) (b : Byte), crcOf (bs ++ [b]) = (List.range 8).foldl
    (fun (r : BitVec 16) k => if r.getLsbD 15 = b.getLsbD (7 - k) then r <<< 1 else (r <<< 1) ^^^ 4129) (crcOf bs)

/-- The form of a frame by its kind (R137): its destination, its set id, its counts and its figures. -/
def formOfChapter8 : Prop :=
  ∀ f : Frame, f.formed = true ↔
    (f.dest = none ↔ f.body.kind ∈ [FrameKind.sync, .call, .commit, .abort, .presence]) ∧
    match f.body with
    | .sync _ => True
    | .call set _ list => set.seq ≠ 0 ∧ 1 ≤ list.length ∧ list.length ≤ 8 ∧ (list.map (·.station)).Nodup ∧
        ∀ e ∈ list, e.station ≠ f.src ∧ 1 ≤ e.count.toNat ∧ e.count.toNat ≤ 16
    | .commit set => set.seq ≠ 0
    | .abort set _ => set.seq ≠ 0
    | .reply set _ slots => set.seq ≠ 0 ∧ slots.toNat ≤ 32
    | .decision set _ => set.seq ≠ 0
    | .stage set items => set.seq ≠ 0 ∧ 1 ≤ items.length ∧ items.length ≤ 4
    | .inquire set => set.seq ≠ 0
    | .missed set => set.seq ≠ 0
    | .presence _ records slots _ => records.toNat ≤ 4 ∧ slots.toNat ≤ 32

/-- The command that each frame is where it is received, and that each command code names (R128, R139). -/
def commandsOfChapter8 : Prop :=
  (∀ (src dest : Station) (set : SetId),
    (∀ time, Frame.command ⟨src, none, .sync time⟩ = .sync src time) ∧
    (∀ epoch list, Frame.command ⟨src, none, .call set epoch list⟩ = .call src set epoch list) ∧
    Frame.command ⟨src, none, .commit set⟩ = .commit src set ∧
    (∀ reason, Frame.command ⟨src, none, .abort set reason⟩ = .abort src set reason) ∧
    (∀ verdict slots, Frame.command ⟨src, some dest, .reply set verdict slots⟩ = .reply src dest set verdict slots) ∧
    (∀ outcome, Frame.command ⟨src, some dest, .decision set outcome⟩ = .decision src dest set outcome) ∧
    (∀ items, Frame.command ⟨src, some dest, .stage set items⟩ = .stage src dest set items) ∧
    Frame.command ⟨src, some dest, .inquire set⟩ = .inquire src dest set ∧
    Frame.command ⟨src, some dest, .missed set⟩ = .missed src dest set ∧
    ∀ lock records slots join, Frame.command ⟨src, none, .presence lock records slots join⟩ =
      .presence src lock records slots join) ∧
  ∀ args : List Byte, (List.range 19).map (fun code => commandOf (BitVec.ofNat 8 code) args) =
    [.nop args, .configureChannel args, .configureCapture args, .configureTrim args, .configureNotices args, .start args,
      .restart args, .openSet args, .addItem args, .submit args, .withdraw args, .readOutcome args, .readCapture args,
      .readNotice args, .readTime args, .readMember args, .readChannel args, .readSet args, .readStatus args]

end Sys2Proof.Machine

open Sys2Proof Sys2Proof.Machine

/-! ### The step -/

/-- A step takes the command at the front of the queue: it is that command's effect on the state with the queue's rest. -/
def Obligations.StepRunsTheFrontCommand : Prop :=
  ∀ (c : Instr) (rest : List Instr) (s : State), s.pending = c :: rest → step s = exec c (s.setPending rest)

/-- DESIGN CHOICE (logs 3, 4 and 36): on an empty queue the block takes one act that is due; with none due, half a microsecond
of the local oscillator passes. A choice among several due acts is free. An act is due exactly when its event's own condition
holds; the end of a gap comes before all others of its instant, and the start of an attempt after them. Where a condition goes
beyond its rule it is the model's too: an attempt begins at bit boundaries counted from the end of the gap (log 8); a level on a
capture pin waits for the one sample of a microsecond, of the oscillator's count (logs 21 and 35); a COMMIT's FRAME_SENT waits
for a PROPOSER_EPOCH that is due (log 26). -/
def Obligations.IdleStepTakesADueActOrTicks : Prop :=
  (∀ s : State, s.pending = [] →
    (dueActs s = [] →
      step s = .next (s.setClock
        { s.clock with
          osc := s.clock.osc + 1
          microDue := s.time.running && (s.clock.osc + 1) % 2 == 0 })) ∧
    (∀ i, dueActs s = [.event i] → step s = exec i s) ∧
    (dueActs s = [.micro] → step s = .next (plainMicro s)) ∧
    (2 ≤ (dueActs s).length → ∃ a ∈ dueActs s,
      step s =
        match a with
        | .event i => exec i (s.setClock { s.clock with choices := s.clock.choices + 1 })
        | .micro => .next (plainMicro (s.setClock { s.clock with choices := s.clock.choices + 1 })))) ∧
  ∀ s : State,
    let gapEnds := ∃ n, s.line.observed = some (.gap n) ∧ 12 ≤ n + (s.clock.osc - s.line.since) / bitTime s.ctl.rate
    let begins := s.ctl.state = .member ∧ s.line.mute = none ∧ (∀ e, s.line.reservation = some e → e ≤ s.clock.osc) ∧
      s.line.queue ≠ [] ∧ s.line.attempt = none ∧ s.line.observed = some .idle ∧
      (s.clock.osc - s.line.since) % bitTime s.ctl.rate = 0
    (gapEnds → dueActs s = [.event .gapEnd]) ∧
    (¬ gapEnds →
      (∀ i, i ≠ .attemptStart → (Act.event i ∈ dueActs s ↔ eventDue s i)) ∧
      (Act.micro ∈ dueActs s ↔ s.clock.microDue = true ∧ ¬ eventDue s .slewPiece) ∧
      (Act.event .attemptStart ∈ dueActs s ↔ begins ∧ s.clock.microDue = false ∧ ∀ i, ¬ eventDue s i))

/-! ### Reset, start, restart (Chapter 10) -/

/-- R154, R155 with R21, R51, R77, R99, R112, R130, R153, R165 and R179: at the end of a hard reset with AUTO LOW every block
has its reset value and the straps are read from the pins. While it lasts every channel pin is LOW, ATTN and LTX are
released, and no command is taken. That the blocks hold their reset values, and the straps their old ones, from its
beginning on is the model's choice (log 20). -/
def Obligations.HardResetLeavesTheResetValues : Prop :=
  (∀ (s : State) (sa : Vector Level 5) (mode : ModePins) (number : Station) (rate : LineRate), mode.auto = .low →
    number.val = 16 * sa[4].code + 8 * sa[3].code + 4 * sa[2].code + 2 * sa[1].code + sa[0].code →
    rate.code = 2 * mode.lr1.code + mode.lr0.code →
    exec (.hardReset .released sa mode) s = .next
      (afterHardReset s { state := .config, number := number, rate := rate, auto := false, resetting := false })) ∧
  (∀ (s : State) (sa : Vector Level 5) (mode : ModePins),
    exec (.hardReset .asserted sa mode) s = .next (afterHardReset s { s.ctl with state := .config, resetting := true })) ∧
  ∀ s : State, s.ctl.resetting = true →
    (∀ c : Fin 16, pinLevel s c = .low) ∧ attn s = false ∧ ltxDominant s = false ∧ carriesCommand s = false

/-- R158 and R97, R114, R145: START taken in CONFIG, and the same effects of a hard reset with the auto-start strap set
(R154, R155). The microsecond of the first capture sample is the model's (logs 21 and 35). -/
def Obligations.StartMakesTheStationJoining : Prop :=
  (∀ s : State, s.ctl.state = .config → carriesCommand s = true →
    exec (.start []) s = .next (withResponse
      { s with
        ctl := { s.ctl with state := .joining }
        time :=
          { now := 0, running := true, lock := .unlocked, slew := none, supervision := none, syncTimer := some 0,
            selfSource := some 0, sample := none, lastStep := none, ownSync := false, trim := s.time.trim }
        capt :=
          { s.capt with refs := s.capt.pins.map some, sampled := Vector.replicate 8 (some (s.clock.osc / 2)) }
        line := { s.line with observed := some (.gap 0), since := s.clock.osc } } 5 .ok [])) ∧
  ∀ (s t : State) (sa : Vector Level 5) (mode : ModePins),
    exec (.hardReset .released sa { mode with auto := .low }) s = .next t →
    exec (.hardReset .released sa { mode with auto := .high }) s = .next
      { t with
        ctl := { t.ctl with state := .joining, auto := true }
        time := { t.time with running := true, syncTimer := some 0, selfSource := some 0 }
        capt :=
          { t.capt with refs := t.capt.pins.map some, sampled := Vector.replicate 8 (some (t.clock.osc / 2)) }
        line := { t.line with observed := some (.gap 0), since := t.clock.osc } }

/-- R163 with R22, R51, R77, R99, R112, R130, R153, R157 and R179: RESTART in every station state keeps the straps and
the configuration, and gives every other value its reset value. The end of the drive that aborts an attempt (log 34), the
kept capture pins and oscillator (log 2) and the microsecond that is no longer due (log 36) are the model's choices. -/
def Obligations.RestartKeepsTheConfigurationAlone : Prop :=
  ∀ s : State, carriesCommand s = true →
    exec (.restart []) s = .next (withResponse
      { s with
        clock := { s.clock with microDue := false }
        ctl := { s.ctl with state := .config }
        chans := s.chans.map fun ch => { ch with active := holdProgram ch.safe, anchor := 0, pending := none }
        part := { table := Vector.replicate 4 none, closed := [], claims := Vector.replicate 16 none }
        prop := { activity := .idle, sequence := 1, log := [] }
        time :=
          { now := 0, running := false, lock := .unlocked, slew := none, supervision := none, syncTimer := none,
            selfSource := none, sample := none, lastStep := none, ownSync := false, trim := s.time.trim }
        memb :=
          { entries := resetEntries s.ctl.number, interval := none, presence := none, announced := false,
            ownPresence := false }
        line :=
          { queue := [], attempt := none, observed := none, since := 0, frameStart := none,
            driveUntil := s.line.attempt.elim s.line.driveUntil fun a => some (driveEnd s a), reservation := none, replies := [], failures := 0,
            mute := none, counters := ⟨0, 0, 0, 0, 0, 0, 0, 0⟩ }
        capt :=
          { s.capt with
            refs := Vector.replicate 8 none, sampled := Vector.replicate 8 none, lastSample := none, queue := [],
            pendingLost := 0, totalLost := 0 }
        notes := { s.notes with flags := 0 } } 6 .ok [])

/-! ### The local port (Chapters 8 and 11) -/

/-- R171: NOP has no effect on any block; with arguments it is refused, again without effect. -/
def Obligations.NopChangesTheResponseAlone : Prop :=
  ∀ (s : State) (args : List Byte), carriesCommand s = true →
    exec (.nop args) s = .next (withResponse s 0 (if args = [] then .ok else .badArgument) [])

/-- R169, step 1: a code of 19 to 255, or a known code with another argument length, is refused BAD_ARGUMENT with no
effect on any block, before any owner's check. -/
def Obligations.PortRefusesUnknownCodesAndWrongLengths : Prop :=
  ∀ (s : State) (code : Byte) (args : List Byte), carriesCommand s = true →
    (argumentLengths[code.toNat]? ≠ some args.length →
      exec (commandOf code args) s = .next (withResponse s code .badArgument [])) ∧
    (19 ≤ code.toNat → commandOf code args = .unknownCommand code args ∧
      exec (.unknownCommand code args) s = .next (withResponse s code .badArgument []))

/-- R166 to R168: SSEL begins a transaction, which carries no command when a hard reset lasts; a release without a command
leaves the stored response; a transaction that a hard reset has met carries no command whatever was shifted in. SDO presents
the bits of the stored response, most significant first, and then 0, and is not driven while SSEL is released. -/
def Obligations.TransactionsCarryCommandsOnlyWhole : Prop :=
  (∀ s : State, carriesCommand s = true ↔ s.ctl.resetting = false ∧ s.port.transaction ≠ some .spoiled) ∧
  (∀ s : State, s.port.transaction = none →
    exec .sselAsserted s = .next (s.setPort
      { s.port with transaction := some (if s.ctl.resetting then .spoiled else .live) })) ∧
  (∀ s : State, exec .transactionWithoutCommand s = .next (s.setPort { s.port with transaction := none })) ∧
  (∀ (s : State) (code : Byte) (args : List Byte), s.port.transaction = some .spoiled ∨ s.ctl.resetting = true →
    exec (commandOf code args) s = .next (s.setPort { s.port with transaction := none })) ∧
  (∀ (s t : State) (edge : ResetEdge) (sa : Vector Level 5) (mode : ModePins), s.port.transaction ≠ none →
    exec (.hardReset edge sa mode) s = .next t → t.port.transaction = some .spoiled) ∧
  ∀ (s : State) (k : Nat) (bit : Fin 8),
    let shown : Byte :=
      (s.port.stored.code :: BitVec.ofNat 8 s.port.stored.status.code :: BitVec.ofNat 8 s.port.stored.results.length ::
        s.port.stored.results).getD k 0
    (s.port.transaction = none → sdo s (8 * k + bit.val) = none) ∧
    (s.port.transaction ≠ none → sdo s (8 * k + bit.val) = some (shown.getLsbD (7 - bit.val)))

/-- R2, R144, R95 in CONFIG and R175 in every station state: each configuration command changes its own value alone. R156,
R158: outside CONFIG the three commands and START are refused BAD_STATE; in CONFIG an argument out of range is refused
BAD_ARGUMENT; a refusal changes nothing. -/
def Obligations.ConfigurationCommands : Prop :=
  ∀ s : State, carriesCommand s = true →
    (s.ctl.state = .config →
      (∀ (c : Fin 16) (level : Level) (policy : LossPolicy),
        exec (.configureChannel [BitVec.ofNat 8 c.val, BitVec.ofNat 8 level.code, BitVec.ofNat 8 policy.code]) s =
          .next (withResponse (s.setChans (s.chans.set c.val
            { s.chans[c] with active := holdProgram level, anchor := 0, safe := level, policy := policy })) 1 .ok [])) ∧
      (∀ (i : Fin 8) (k : Fin 4),
        exec (.configureCapture [BitVec.ofNat 8 i.val, BitVec.ofNat 8 k.val]) s =
          .next (withResponse
            (s.setCapt { s.capt with selections := s.capt.selections.set i.val selectionCodes[k] }) 2 .ok [])) ∧
      ∀ trim : Fin 16, exec (.configureTrim [BitVec.ofNat 8 trim.val]) s =
        .next (withResponse (s.setTime { s.time with trim := trim }) 3 .ok [])) ∧
    (∀ hi lo : Byte, exec (.configureNotices [hi, lo]) s =
      .next (withResponse
        (s.setNotes { s.notes with enable := BitVec.ofNat 11 (hi.toNat * 256 + lo.toNat) }) 4 .ok [])) ∧
    (s.ctl.state ≠ .config →
      (∀ a b c : Byte, exec (.configureChannel [a, b, c]) s = .next (withResponse s 1 .badState [])) ∧
      (∀ a b : Byte, exec (.configureCapture [a, b]) s = .next (withResponse s 2 .badState [])) ∧
      (∀ a : Byte, exec (.configureTrim [a]) s = .next (withResponse s 3 .badState [])) ∧
      exec (.start []) s = .next (withResponse s 5 .badState [])) ∧
    (s.ctl.state = .config →
      (∀ a b c : Byte, 15 < a.toNat ∨ 1 < b.toNat ∨ 1 < c.toNat →
        exec (.configureChannel [a, b, c]) s = .next (withResponse s 1 .badArgument [])) ∧
      (∀ a b : Byte, 7 < a.toNat ∨ 3 < b.toNat →
        exec (.configureCapture [a, b]) s = .next (withResponse s 2 .badArgument [])) ∧
      ∀ a : Byte, 15 < a.toNat → exec (.configureTrim [a]) s = .next (withResponse s 3 .badArgument []))

/-! ### Drafts and SUBMIT (Chapter 3) -/

/-- R56: OPEN SET by station state and phase. -/
def Obligations.OpenSetByPhase : Prop :=
  ∀ (s : State) (epoch : NetTime), carriesCommand s = true →
    exec (.openSet (beBytes 6 epoch.toNat)) s = .next
      (if s.ctl.state ≠ .member then withResponse s 7 .badState []
       else
         match s.prop.activity with
         | .idle =>
           withResponse (s.setProp { s.prop with activity := .drafting { epoch := epoch, items := [] } }) 7 .ok []
         | .drafting _ => withResponse s 7 .busy []
         | .active _ => withResponse s 7 .busy [])

/-- R57, with R4 and R54: the checks of ADD ITEM in their order, and the draft after each outcome. An item with the target and
channel of one in the draft replaces it where it stands; any other is added at its place in the draft's order, and every other item
stays. -/
def Obligations.AddItemChecksInOrder : Prop :=
  ∀ (s : State) (target : Byte) (it : Item), carriesCommand s = true →
    ((∀ d, s.prop.activity ≠ .drafting d) →
      exec (.addItem (target :: itemBytes it)) s = .next (withResponse s 8 .badState [])) ∧
    ∀ d, s.prop.activity = .drafting d →
      let drafted (items : List DraftItem) : State :=
        withResponse (s.setProp { s.prop with activity := .drafting { d with items := items } }) 8 .ok []
      (31 < target.toNat ∨ ¬ validItem it →
        exec (.addItem (target :: itemBytes it)) s = .next (withResponse s 8 .badArgument [])) ∧
      ∀ st : Station, target.toNat = st.val → validItem it →
        let new : DraftItem := { target := st, item := it }
        let same (x : DraftItem) : Prop := x.target = st ∧ x.item.channel = it.channel
        let room := d.items.length < 32 ∧
          (st = s.ctl.number ∨ (∃ x ∈ d.items, x.target = st) ∨ otherTargetCount s.ctl.number d.items < 8)
        ((∃ x ∈ d.items, same x) → exec (.addItem (target :: itemBytes it)) s = .next (drafted
          (d.items.map fun x => if x.target = st ∧ x.item.channel = it.channel then new else x))) ∧
        ((∀ x ∈ d.items, ¬ same x) → ¬ room →
          exec (.addItem (target :: itemBytes it)) s = .next (withResponse s 8 .full [])) ∧
        ((∀ x ∈ d.items, ¬ same x) → room → ∃ front back, d.items = front ++ back ∧
          exec (.addItem (target :: itemBytes it)) s = .next (drafted (front ++ new :: back)) ∧
          (d.items.Pairwise draftOrder → (front ++ new :: back).Pairwise draftOrder))

/-- R58: SUBMIT is refused with the status of the first check that fails, and nothing changes; outside DRAFTING it is
refused BAD_STATE. -/
def Obligations.SubmitRefusedByTheFirstFailingTest : Prop :=
  ∀ s : State, carriesCommand s = true →
    ((∀ d, s.prop.activity ≠ .drafting d) → exec (.submit []) s = .next (withResponse s 9 .badState [])) ∧
    ∀ d c, s.prop.activity = .drafting d → (submitChecks s d).find? (fun x => !x.1) = some c →
      exec (.submit []) s = .next (withResponse s 9 c.2 [])

/-- R59 with R61: an accepted SUBMIT with an item for another station. The targets are the stations other than this one in the
draft, in ascending order, each once, with its item count and PENDING; the first STAGE carries the items that R61 groups. R46:
when the draft has items for this station too, the self record takes the lowest empty position; the other positions stay. No
second record of one set id is made (R24): while an ARMED record of an earlier round of the sequence still holds the id, no
self record is made, and a self-only set is refused UNKNOWN_SET, its entry taking its place in the log (R72, R73). That corner is
the model's choice (log 24); so is the next STAGE position's stay at the first item until the first STAGE's sent report (log 25). -/
def Obligations.SubmitOpensTheProposal : Prop :=
  (∀ (s : State) (d : Draft), carriesCommand s = true → s.prop.activity = .drafting d →
    (submitChecks s d).all (·.1) = true → (∃ x ∈ d.items, x.target ≠ s.ctl.number) →
    ∃ (t : State) (p : Proposal), exec (.submit []) s = .next t ∧ t.prop.activity = .active p ∧
      p.set = { proposer := s.ctl.number, seq := s.prop.sequence } ∧ p.epoch = d.epoch ∧ p.phase = .staging ∧
      p.items = d.items.filter (fun x => x.target != s.ctl.number) ∧
      (∀ st : Station, (∃ x ∈ p.targets, x.station = st) ↔ st ≠ s.ctl.number ∧ ∃ x ∈ d.items, x.target = st) ∧
      (∀ x ∈ p.targets, x.count = draftCount x.station d ∧ x.result = .pending) ∧ (p.targets.map (·.station)).Nodup ∧
      (d.items.Pairwise draftOrder → p.targets.Pairwise fun x y => x.station.val < y.station.val) ∧
      p.selfIncluded = d.items.any (fun x => x.target == s.ctl.number) ∧
      p.selfCount = draftCount s.ctl.number d ∧ p.selfResult = .pending ∧
      p.nextStage = 0 ∧ p.callSent = false ∧ p.lockLost = false ∧ p.abortReason = none ∧ p.windowStart = none ∧
      p.windowEnd = none ∧
      (∃ first rest, isStageGroup p.items (first :: rest) ∧
        let frame : Frame :=
          { src := s.ctl.number, dest := some first.target, body := .stage p.set ((first :: rest).map (·.item)) }
        p.outstanding = some { frame := frame, queued := decide (s.line.queue.length < 12) } ∧
        t.line = { s.line with queue := queueOffered frame s.line.queue }) ∧
      t.prop.sequence = (if s.prop.sequence = 255 then 1 else s.prop.sequence + 1) ∧ t.prop.log = s.prop.log ∧
      t.port = { stored := { code := 9, status := .ok, results := [] }, transaction := none } ∧
      t.clock = s.clock ∧ t.ctl = s.ctl ∧ t.chans = s.chans ∧ t.part.claims = s.part.claims ∧
      t.part.closed = s.part.closed ∧ t.time = s.time ∧ t.memb = s.memb ∧ t.capt = s.capt ∧ t.notes = s.notes ∧
      t.pending = s.pending ∧
      (itemsFor s.ctl.number d = [] ∨ ¬ noRecord s p.set → t.part.table = s.part.table) ∧
      ∀ i : Fin 4, itemsFor s.ctl.number d ≠ [] → noRecord s p.set → s.part.table[i] = none →
        (∀ j, j < i → s.part.table[j] ≠ none) →
        t.part.table[i] = some
          { set := { proposer := s.ctl.number, seq := s.prop.sequence }, state := .staging, epoch := none,
            expected := none, items := itemsFor s.ctl.number d, short := false, invalid := false, inquiries := 0,
            windowEnd := none, timer := none, self := true } ∧
        ∀ j, j ≠ i → t.part.table[j] = s.part.table[j]) ∧
  ∀ (s : State) (d : Draft), carriesCommand s = true → s.prop.activity = .drafting d →
    (submitChecks s d).all (·.1) = true → (∀ x ∈ d.items, x.target = s.ctl.number) →
    let set : SetId := { proposer := s.ctl.number, seq := s.prop.sequence }
    ¬ noRecord s set → noSelfRecord s set → ¬ closedFor s set .noRoom →
    ∃ t, exec (.submit []) s = .next t ∧ t.part = s.part ∧ isPending .outcome t = true ∧
      t.prop =
        { activity := .idle
          sequence := if s.prop.sequence = 255 then 1 else s.prop.sequence + 1
          log := loggedWith
            { set := set, epoch := d.epoch, abort := some .selfRefused, targets := []
              selfResult := some (.refused .unknownSet) } s.prop.log } ∧
      t.line = s.line ∧ t.chans = s.chans ∧ t.time = s.time ∧ t.memb = s.memb ∧ t.ctl = s.ctl ∧ raisesOnly [.outcome] s t

/-- R60 with R47, R72 and R73: a self-only set is decided within its SUBMIT. READY unless a channel is claimed; then the record
stands ARMED at the lowest empty position with its channels claimed, and the log shows COMMITTED; otherwise no record stays and the
log shows ABORTED(SELF_REFUSED) with CONFLICT. The log's other entries stay. No frame is sent. -/
def Obligations.SelfOnlySubmitDecidesAtOnce : Prop :=
  ∀ (s : State) (d : Draft), carriesCommand s = true → s.prop.activity = .drafting d →
    (submitChecks s d).all (·.1) = true → (∀ x ∈ d.items, x.target = s.ctl.number) →
    let set : SetId := { proposer := s.ctl.number, seq := s.prop.sequence }
    noRecord s set → (∀ f ∈ s.line.queue, isInquireFor set f = false) →
    let items := itemsFor s.ctl.number d
    let clash := (List.finRange 16).any fun c => items.any (onChannel c) && s.part.claims[c].isSome
    ∃ t, exec (.submit []) s = .next t ∧ isPending .outcome t = true ∧
      t.prop =
        { activity := .idle
          sequence := if s.prop.sequence = 255 then 1 else s.prop.sequence + 1
          log := loggedWith
            { set := set, epoch := d.epoch, abort := if clash then some .selfRefused else none, targets := []
              selfResult := some (if clash then .refused .conflict else .ready) } s.prop.log } ∧
      t.port = { stored := { code := 9, status := .ok, results := [] }, transaction := none } ∧ t.line = s.line ∧
      t.chans = s.chans ∧ t.time = s.time ∧ t.memb = s.memb ∧ t.capt = s.capt ∧ t.ctl = s.ctl ∧ t.clock = s.clock ∧
      t.pending = s.pending ∧ t.notes.enable = s.notes.enable ∧ raisesOnly [.outcome] s t ∧
      t.part.closed = s.part.closed ∧ (clash = true → t.part = s.part) ∧
      (clash = false → ∃ i : Fin 4, s.part.table[i] = none ∧ (∀ j, j < i → s.part.table[j] ≠ none) ∧
        t.part.table = s.part.table.set i.val (some
          { set := set, state := .armed, epoch := some d.epoch, expected := some items.length, items := items
            short := false, invalid := false, inquiries := 0, windowEnd := none, timer := none, self := true }) ∧
        ∀ c : Fin 16, t.part.claims[c] = if items.any (onChannel c) then some set else s.part.claims[c])

/-- R70: WITHDRAW by phase. In STAGING and CALLING the proposal goes to ABORTING with reason WITHDRAWN, and no frame of
it but the ABORT is left in the queue, where that takes its place as soon as there is room (R62, R68); one on the line is aborted
there, driven dominant to the end of its character (R116), a last stop bit included (log 34). A WITHDRAW that comes after the last
STAGE's sent report finds the phase that the report left: the model's choice where R63's checks failed (log 43). -/
def Obligations.WithdrawByPhase : Prop :=
  ∀ s : State, carriesCommand s = true →
    (s.prop.activity = .idle → exec (.withdraw []) s = .next (withResponse s 10 .badState [])) ∧
    (∀ d, s.prop.activity = .drafting d →
      exec (.withdraw []) s = .next (withResponse (s.setProp { s.prop with activity := .idle }) 10 .ok [])) ∧
    ∀ p, s.prop.activity = .active p →
      (p.phase = .voting ∨ p.phase = .committing ∨ p.phase = .aborting →
        exec (.withdraw []) s = .next (withResponse s 10 .badState [])) ∧
      (p.phase = .staging ∨ p.phase = .calling → s.line.queue.countP isProposalFrame ≤ 1 →
        ∃ (t : State) (q : Proposal), exec (.withdraw []) s = .next t ∧
          t.port.stored = { code := 10, status := .ok, results := [] } ∧ t.prop.activity = .active q ∧
          (∃ out, q =
            { p with phase := .aborting, abortReason := some .withdrawn, outstanding := out }) ∧
          abortQueued p { src := s.ctl.number, dest := none, body := .abort p.set .withdrawn } s t ∧
          attemptStays (fun f => isProposalFrame f = true ∨ isInquireFor p.set f = true) s t ∧
          keepsQueued (fun f => isProposalFrame f = true ∨ isInquireFor p.set f = true) s t.line.queue ∧
          t.prop.log = s.prop.log ∧ t.prop.sequence = s.prop.sequence ∧ t.chans = s.chans ∧ t.time = s.time ∧
          t.memb = s.memb ∧ t.capt = s.capt ∧ t.ctl = s.ctl ∧ t.clock = s.clock ∧ t.pending = s.pending ∧
          t.port.transaction = none ∧ t.notes.enable = s.notes.enable ∧ raisesOnly [.setDropped] s t ∧
          lineBystanders s t ∧ freesSelf p.set s t ∧ abortedOnLine (isProposalFrame · = true) s t)

/-! ### The read commands (Chapters 8, 11, 12) -/

/-- R96, R172, R111: READ TIME, READ STATUS and READ MEMBER report the state as it stands and change the stored response
alone. The free-slot count is 32 less the items of the records, the free-record count 4 less the records held (R25). -/
def Obligations.TimeStatusAndMemberReads : Prop :=
  ∀ s : State, carriesCommand s = true →
    exec (.readTime []) s =
      .next (withResponse s 14 .ok (beBytes 6 s.time.now.toNat ++ [BitVec.ofNat 8 s.time.lock.code])) ∧
    exec (.readStatus []) s = .next (withResponse s 18 .ok
      ([BitVec.ofNat 8 s.ctl.state.code, BitVec.ofNat 8 s.ctl.number.val, BitVec.ofNat 8 s.ctl.rate.code,
          BitVec.ofNat 8 s.ctl.auto.toNat] ++
        beBytes 2 s.line.counters.crcErrors ++ beBytes 2 s.line.counters.malformed ++
        beBytes 2 s.line.counters.unknownKind ++ beBytes 2 s.line.counters.arbitrationLosses ++
        beBytes 2 s.line.counters.bitErrors ++ beBytes 2 s.line.counters.breaks ++ beBytes 2 s.line.counters.mutes ++
        beBytes 2 s.line.counters.anomalies ++
        [BitVec.ofNat 8 (recordsLeft s), BitVec.ofNat 8 (slotsLeft s), BitVec.ofNat 8 s.prop.activity.code] ++
        beBytes 2 s.capt.totalLost)) ∧
    (∀ st : Station, s.memb.entries[st] = { MemberEntry.initial with state := .self } →
      exec (.readMember [BitVec.ofNat 8 st.val]) s = .next (withResponse s 15 .ok
        [BitVec.ofNat 8 st.val, 3, 14, 0, 0, 0, 0, 0, 0, 0, BitVec.ofNat 8 s.time.lock.code,
          BitVec.ofNat 8 (recordsLeft s), BitVec.ofNat 8 (slotsLeft s), BitVec.ofNat 8 s.memb.announced.toNat])) ∧
    (∀ (st : Station) (e : MemberEntry), s.memb.entries[st] = e → e.state ≠ .self →
      exec (.readMember [BitVec.ofNat 8 st.val]) s = .next (withResponse s 15 .ok
        ([BitVec.ofNat 8 st.val, BitVec.ofNat 8 e.state.code,
            BitVec.ofNat 8 (e.lastHeard.isSome.toNat + 2 * e.lock.isSome.toNat + 4 * e.records.isSome.toNat +
              8 * e.slots.isSome.toNat), BitVec.ofNat 8 e.missed] ++
          beBytes 6 (e.lastHeard.getD 0).toNat ++
          [BitVec.ofNat 8 ((e.lock.map LockState.code).getD 0), BitVec.ofNat 8 (e.records.getD 0),
            BitVec.ofNat 8 (e.slots.getD 0), BitVec.ofNat 8 s.memb.announced.toNat]))) ∧
    ∀ b : Byte, 31 < b.toNat → exec (.readMember [b]) s = .next (withResponse s 15 .badArgument [])

/-- R23, R52, R74: READ CHANNEL, READ SET and READ OUTCOME report the state as it stands and change the stored response
alone; an index out of range is refused, and an index beyond the log reads EMPTY. -/
def Obligations.ChannelSetAndOutcomeReads : Prop :=
  ∀ s : State, carriesCommand s = true →
    (∀ c : Fin 16, exec (.readChannel [BitVec.ofNat 8 c.val]) s = .next (withResponse s 16 .ok
      ([BitVec.ofNat 8 c.val, BitVec.ofNat 8 s.chans[c].pending.isSome.toNat, BitVec.ofNat 8 s.chans[c].safe.code,
          BitVec.ofNat 8 s.chans[c].policy.code, BitVec.ofNat 8 (pinLevel s c).code] ++
        programBytes s.chans[c].active ++ beBytes 6 s.chans[c].anchor.toNat ++
        match s.chans[c].pending with
        | some w => programBytes w.program ++ beBytes 6 w.boundary.toNat ++ [BitVec.ofNat 8 w.set.proposer.val, w.set.seq]
        | none => List.replicate 21 0))) ∧
    (∀ b : Byte, 15 < b.toNat → exec (.readChannel [b]) s = .next (withResponse s 16 .badArgument [])) ∧
    (∀ i : Fin 4, s.part.table[i] = none →
      exec (.readSet [BitVec.ofNat 8 i.val]) s =
        .next (withResponse s 17 .ok (BitVec.ofNat 8 i.val :: List.replicate 14 0))) ∧
    (∀ (i : Fin 4) (r : SetRecord), s.part.table[i] = some r →
      exec (.readSet [BitVec.ofNat 8 i.val]) s = .next (withResponse s 17 .ok
        ([BitVec.ofNat 8 i.val, 1, BitVec.ofNat 8 r.set.proposer.val, r.set.seq, BitVec.ofNat 8 r.state.code,
            BitVec.ofNat 8 (r.short.toNat + 2 * r.invalid.toNat + 4 * r.self.toNat + 8 * r.epoch.isSome.toNat +
              16 * r.expected.isSome.toNat)] ++
          beBytes 6 (r.epoch.getD 0).toNat ++
          [BitVec.ofNat 8 (r.expected.getD 0), BitVec.ofNat 8 r.inquiries, BitVec.ofNat 8 r.items.length] ++
          r.items.flatMap itemBytes))) ∧
    (∀ b : Byte, 3 < b.toNat → exec (.readSet [b]) s = .next (withResponse s 17 .badArgument [])) ∧
    (∀ (b : Byte) (e : LogEntry), b.toNat ≤ 7 → s.prop.log.reverse[b.toNat]? = some e →
      let own : List (Nat × TargetResult) := e.selfResult.toList.map fun r => (255, r)
      let results := e.targets.map (fun t => (t.station.val, t.result)) ++ own
      exec (.readOutcome [b]) s = .next (withResponse s 11 .ok
        ([b, BitVec.ofNat 8 e.set.proposer.val, e.set.seq] ++ beBytes 6 e.epoch.toNat ++
          [if e.abort.isSome then 2 else 1, BitVec.ofNat 8 ((e.abort.map AbortReason.code).getD 0),
            BitVec.ofNat 8 results.length] ++
          results.flatMap fun x => [BitVec.ofNat 8 x.1, BitVec.ofNat 8 x.2.code, BitVec.ofNat 8 x.2.reason]))) ∧
    (∀ b : Byte, b.toNat ≤ 7 → s.prop.log.length ≤ b.toNat →
      exec (.readOutcome [b]) s = .next (withResponse s 11 .empty [])) ∧
    ∀ b : Byte, 7 < b.toNat → exec (.readOutcome [b]) s = .next (withResponse s 11 .badArgument [])

/-- R174, R151, R142: the notices have the codes 1 to 11 in R174's order; a notice of code 1 to 10 is pending exactly when its
bit of the flags is set, and CAPTURE exactly while the capture queue holds a record; a notice is enabled when its bit of the
enable set is. R178: outside a hard reset ATTN is asserted exactly while some notice is pending and enabled. R176: READ NOTICE
reports the pending and enabled notice with the lowest code and clears its flag, CAPTURE's apart; STEP carries the last step;
with none it reports code 0 and clears nothing. R150: READ CAPTURE removes and returns the oldest record, and reads EMPTY without
effect when there is none. -/
def Obligations.ReadNoticeAndReadCapture : Prop :=
  (([.fault, .line, .lock, .step, .setDropped, .setApplied, .outcome, .lateReport, .member, .captureLost, .capture] :
      List Notice).map Notice.code = [1, 2, 3, 4, 5, 6, 7, 8, 9, 10, 11]) ∧
  (∀ s : State,
    (∀ n : Notice, n ≠ .capture → isPending n s = s.notes.flags.getLsbD (n.code - 1)) ∧
    (isPending .capture s = true ↔ s.capt.queue ≠ []) ∧
    (∀ n : Notice, isEnabled n s = s.notes.enable.getLsbD (n.code - 1)) ∧
    (s.ctl.resetting = false → (attn s = true ↔ ∃ n : Notice, isPending n s = true ∧ isEnabled n s = true))) ∧
  ∀ s : State, carriesCommand s = true →
    (∀ n : Notice, isPending n s = true → isEnabled n s = true →
      (∀ m : Notice, m.code < n.code → (isPending m s && isEnabled m s) = false) →
      exec (.readNotice []) s = .next (withResponse
        (if n = .capture then s
         else s.setNotes { s.notes with flags := s.notes.flags &&& ~~~(BitVec.twoPow 11 (n.code - 1)) }) 13 .ok
        (BitVec.ofNat 8 n.code ::
          beBytes 6 (if n = .step then BitVec.ofInt 48 (s.time.lastStep.getD 0) else 0).toNat))) ∧
    ((∀ m : Notice, (isPending m s && isEnabled m s) = false) →
      exec (.readNotice []) s = .next (withResponse s 13 .ok [0, 0, 0, 0, 0, 0, 0])) ∧
    (∀ r rest, s.capt.queue = r :: rest →
      exec (.readCapture []) s = .next (withResponse (s.setCapt { s.capt with queue := rest }) 12 .ok
        ([BitVec.ofNat 8 r.input.val, BitVec.ofNat 8 r.edge.code] ++ beBytes 6 r.time.toNat ++
          [BitVec.ofNat 8 r.quality.code, BitVec.ofNat 8 r.lostBefore]))) ∧
    (s.capt.queue = [] → exec (.readCapture []) s = .next (withResponse s 12 .empty []))

/-! ### The observed line and discarded frames (Chapter 7) -/

/-- R114, R82, R98: the observed line from IDLE or GAP to FRAME with its start-edge sample, from FRAME to GAP, from GAP
to IDLE after 12 recessive bit times and not before (log 6). R121, R129: a break counts once, with LINE, outside CONFIG, and
ends in IDLE. Model's choices: in FAULTED the sample is kept (log 15); a frame cut short counts its first gap bit one bit
time ahead (log 13); breaks and their ends are taken as the sender gives them (log 23). -/
def Obligations.ObservedLineFollowsTheEvents : Prop :=
  ∀ s : State,
    (s.line.observed = some .idle ∨ (∃ n, s.line.observed = some (.gap n)) →
      let line := { s.line with observed := some .frame, since := s.clock.osc, frameStart := some s.clock.osc }
      (s.ctl.state = .joining ∨ s.ctl.state = .member →
        exec .frameStartEdge s = .next ((s.setLine line).setTime { s.time with sample := some s.time.now })) ∧
      (s.ctl.state = .faulted → exec .frameStartEdge s = .next (s.setLine line))) ∧
    (∀ n, s.line.observed = some (.gap n) →
      exec .gapEnd s = .next
        (if 12 ≤ n + (s.clock.osc - s.line.since) / bitTime s.ctl.rate then
           s.setLine { s.line with observed := some .idle, since := s.clock.osc }
         else s)) ∧
    (s.line.observed = some .brk →
      exec .breakEnd s = .next (s.setLine { s.line with observed := some .idle, since := s.clock.osc })) ∧
    (inReception s →
      exec (.frameEnd false) s = .next (afterFrame s) ∧
      exec (.frameEnd true) s = .next (s.setLine
        { s.line with observed := some (.gap 1), since := s.clock.osc + bitTime s.ctl.rate })) ∧
    (s.ctl.state ≠ .config → s.line.attempt = none →
      let counters := { s.line.counters with breaks := min (s.line.counters.breaks + 1) 65535 }
      (s.line.observed ≠ some .brk →
        exec .breakDetected s = .next ((s.setLine
          { s.line with observed := some .brk, since := s.clock.osc, counters := counters }).setNotes
            { s.notes with flags := s.notes.flags ||| 2 })) ∧
      (s.line.observed = some .brk → exec .breakDetected s = .next s))

/-- R125, R126, R136, R137: a discarded frame counts in its own counter alone, in JOINING and MEMBER, reaches no block,
and in FAULTED counts in none. A frame command with ill-formed operands counts as malformed: the model's choice (log 11). -/
def Obligations.DiscardedFramesCountAlone : Prop :=
  ∀ s : State, inReception s →
    (s.ctl.state = .joining ∨ s.ctl.state = .member →
      (∀ cause : CrcCause, ∃ t, exec (.crcError cause) s = .next t ∧
        t = s.setLine { t.line with
          counters := { s.line.counters with crcErrors := min (s.line.counters.crcErrors + 1) 65535 } } ∧
        t.line = { s.line with observed := t.line.observed, since := t.line.since, counters := t.line.counters } ∧
        (t.line.observed = some (.gap (if cause = .cutShort then 1 else 0)))) ∧
      (exec .unknownKind s = .next ((afterFrame s).setLine { (afterFrame s).line with
        counters := { s.line.counters with unknownKind := min (s.line.counters.unknownKind + 1) 65535 } })) ∧
      (exec .malformedFrame s = .next ((afterFrame s).setLine { (afterFrame s).line with
        counters := { s.line.counters with malformed := min (s.line.counters.malformed + 1) 65535 } })) ∧
      ∀ f : Frame, f.body.formed f.src = false → (f.dest.isNone == f.body.kind.broadcast) = true →
        exec f.command s = exec .malformedFrame s) ∧
    (s.ctl.state = .faulted →
      exec (.crcError .mismatch) s = .next (afterFrame s) ∧ exec .unknownKind s = .next (afterFrame s) ∧
        exec .malformedFrame s = .next (afterFrame s))

/-- R127: JOINING passes a valid SYNC alone, and FAULTED checks no frame: every other valid frame leaves all but the
observed line as it was. -/
def Obligations.StationFilterByState : Prop :=
  ∀ (s : State) (f : Frame), inReception s → f.formed = true →
    (s.ctl.state = .joining ∧ f.body.kind ≠ .sync) ∨ s.ctl.state = .faulted →
    exec f.command s = .next (afterFrame s)

/-- R161 with R20, R51, R77, R98, R112, R131 and R179: a valid frame from the station's own number, which it did not
send, makes it FAULTED: of any kind in MEMBER, a SYNC in JOINING. That a frame command with this station's number is
that event is the model's choice (log 12). -/
def Obligations.OwnNumberMakesTheStationFaulted : Prop :=
  ∀ (s : State) (kind : FrameKind), inReception s →
    s.ctl.state = .member ∨ (s.ctl.state = .joining ∧ kind = .sync) →
    (exec (.ownNumberFrame kind) s = .next
      { s with
        ctl := { s.ctl with state := .faulted }
        chans := s.chans.map fun ch => { ch with active := holdProgram ch.safe, anchor := 0, pending := none }
        part := { table := Vector.replicate 4 none, closed := [], claims := Vector.replicate 16 none }
        prop := { activity := .idle, sequence := 1, log := [] }
        time := { s.time with ownSync := false, selfSource := none }
        memb := { s.memb with interval := none, presence := none, ownPresence := false }
        line :=
          { s.line with
            observed := some (.gap 0)
            since := s.clock.osc
            queue := []
            reservation := none
            replies := []
            failures := 0
            mute := none }
        notes := { s.notes with flags := s.notes.flags ||| 1 } }) ∧
    ∀ f : Frame, f.formed = true → f.src = s.ctl.number → f.body.kind = kind →
      exec f.command s = exec (.ownNumberFrame kind) s

/-! ### SYNC (Chapter 5) -/

/-- R83, R84, R86, R87, R91, R102: a SYNC whose offset lies from -20 to 20, taken in MEMBER, or in JOINING while UNLOCKED: a
slew replaces any in progress, the timers restart, this station's own outstanding SYNC is withdrawn, and the lock state
follows the table with a LOCK notice at a change. -/
def Obligations.SyncWithinTheSlewLimit : Prop :=
  ∀ (s : State) (src : Station) (time sample : NetTime),
    s.ctl.state = .member ∨ s.ctl.state = .joining ∧ s.time.lock = .unlocked → inReception s → src ≠ s.ctl.number →
    s.time.sample = some sample →
    let o := sdiff (time + BitVec.ofNat 48 s.time.trim.val) sample
    let next := lockTable s.time.lock true
    (-20 ≤ o) → o ≤ 20 →
    let u := (delivered src s).setTime
      { s.time with
        slew := if o = 0 then none else some { offset := o, remaining := o, progress := 0 }
        supervision := some 0
        syncTimer := some 0
        selfSource := none
        lock := next }
    let v := withoutOwnSync u
    exec (.sync src time) s = .next
      (if next = s.time.lock then v else v.setNotes { v.notes with flags := v.notes.flags ||| 4 })

/-- R83, R85, R86, R87: a SYNC with any other offset, taken in MEMBER, or in JOINING before LOCKED; no epoch, boundary or
open proposal being there to be met, the step moves network time, drops the slew, keeps the amount and raises STEP; the own
outstanding SYNC is withdrawn. The sender's last-heard time is that before the step: the model's choice (log 16). -/
def Obligations.SyncBeyondTheSlewLimitSteps : Prop :=
  ∀ (s : State) (src : Station) (time sample : NetTime),
    s.ctl.state = .member ∨ s.ctl.state = .joining ∧ (s.time.lock = .unlocked ∨ s.time.lock = .acquiring) →
    inReception s → src ≠ s.ctl.number → s.time.sample = some sample →
    (∀ (i : Fin 4) (r : SetRecord), s.part.table[i] = some r → r.epoch = none) →
    (∀ c : Fin 16, s.chans[c].pending = none) → (∀ p, s.prop.activity ≠ .active p) →
    let o := sdiff (time + BitVec.ofNat 48 s.time.trim.val) sample
    let next := lockTable s.time.lock false
    o < -20 ∨ 20 < o →
    let u := (delivered src s).setTime
      { s.time with
        now := s.time.now + BitVec.ofInt 48 o
        slew := none
        lastStep := some o
        supervision := some 0
        syncTimer := some 0
        selfSource := none
        lock := next }
    let v := withoutOwnSync (u.setNotes { u.notes with flags := u.notes.flags ||| 8 })
    exec (.sync src time) s = .next
      (if next = s.time.lock then v else v.setNotes { v.notes with flags := v.notes.flags ||| 4 })

/-- R45, R85 with R10, R11, R13, R16, R42, R43, R48 and R67 to R69: whatever a step carries network time past is met at the step.
ARMED records are handed over, each item to its channel with its anchor or boundary; VOTED and IN_DOUBT ones are freed, those of
other stations' sets with an EXPIRED entry; due swaps complete; the open proposal meets its epoch by its phase. All other records,
channels and claims stay. R87 with R86: the supervision and sync timers restart, the self-source timer stops, the lock state follows
the table, and the own outstanding SYNC is withdrawn, as are the freed records' INQUIREs (R37), and no other frame. The model's choices: the
sender's last-heard time is the one before the step (log 16); the order in which these meet it (log 37); and that a step back so far that the signed difference of R80 becomes 0 or more meets an epoch too, though R45 leaves every
record as it is at a step back (log 42). -/
def Obligations.StepMeetsWhatItPasses : Prop :=
  ∀ (s : State) (src : Station) (time sample : NetTime), ClaimsSound s → StoreSound s → memberReceives s src →
    s.time.sample = some sample →
    let o := sdiff (time + BitVec.ofNat 48 s.time.trim.val) sample
    let now := s.time.now + BitVec.ofInt 48 o
    o < -20 ∨ 20 < o →
    ∃ t, exec (.sync src time) s = .next t ∧
      t.time =
        { s.time with
          now := now
          lastStep := some o
          slew := none
          supervision := some 0
          syncTimer := some 0
          selfSource := none
          ownSync := false
          lock := lockTable s.time.lock false } ∧
      isPending .step t = true ∧ (lockTable s.time.lock false ≠ s.time.lock → isPending .lock t = true) ∧
      raisesOnly [.step, .lock, .member, .setApplied, .setDropped, .outcome] s t ∧
      bystanders s t ∧ t.prop.sequence = s.prop.sequence ∧ t.line.counters = s.line.counters ∧
      t.memb = (heardFrom src s).memb ∧ recordsMeet now s t ∧ channelsMeet now s t ∧ proposalMeets now s t ∧
      queueMeets now s t ∧ lineBystanders (afterFrame s) t ∧ attemptStays (fun _ => False) s t

/-! ### STAGE and CALL at a target (Chapter 2) -/

/-- R29, R28, R128: what a STAGE addressed to this station does, by what its set id finds; and one for another station or
of another proposer. A taken STAGE changes its own record alone. -/
def Obligations.StageByWhatItsSetFinds : Prop :=
  ∀ (s : State) (src : Station) (set : SetId) (items : List Item), memberReceives s src →
    (Body.stage set items).formed src = true →
    let new : SetRecord :=
      { set := set, state := .staging, epoch := none, expected := none, items := [], short := false, invalid := false,
        inquiries := 0, windowEnd := none, timer := none, self := false }
    (∀ dest, dest ≠ s.ctl.number → exec (.stage src dest set items) s = .next (delivered src s)) ∧
    (set.proposer ≠ src →
      exec (.stage src s.ctl.number set items) s = .next (oneAnomaly (delivered src s))) ∧
    (set.proposer = src →
      (∀ (i : Fin 4) (r : SetRecord), isRecord s set i r →
        exec (.stage src s.ctl.number set items) s = .next
          (if r.state = .staging then
             withRecord i (some { stageItems (slotsLeft s) r items with timer := some s.clock.osc }) (delivered src s)
           else oneAnomaly (delivered src s))) ∧
      (noRecord s set →
        (closedFor s set .noRoom → exec (.stage src s.ctl.number set items) s = .next (delivered src s)) ∧
        (¬ closedFor s set .noRoom → closedFor s set .expired →
          exec (.stage src s.ctl.number set items) s = .next (oneAnomaly (delivered src s))) ∧
        (¬ closedFor s set .noRoom → ¬ closedFor s set .expired →
          (∀ i : Fin 4, s.part.table[i] = none → (∀ j, j < i → s.part.table[j] ≠ none) →
            exec (.stage src s.ctl.number set items) s = .next (withRecord i
              (some { stageItems (slotsLeft s) new items with timer := some s.clock.osc })
              (delivered src s))) ∧
          ((∀ i : Fin 4, s.part.table[i] ≠ none) →
            exec (.stage src s.ctl.number set items) s = .next ((delivered src s).setPart
              { s.part with
                closed := closedWith { set := set, kind := .noRoom, missedSent := false } s.part.closed })))))

/-- R30, with R4: one item of a STAGE taken into a record: an invalid item sets INVALID; a held channel's item is replaced in its
slot; a new channel takes a free slot in channel order, or sets SHORT when there is none. The rest go on with the slots
that are left. -/
def Obligations.StagedItemsOneAtATime : Prop :=
  (∀ it : Item, itemValid it = true ↔ validItem it) ∧
  ∀ (free : Nat) (r : SetRecord) (it : Item) (rest : List Item),
    stageItems free r [] = r ∧
    (¬ validItem it → stageItems free r (it :: rest) = stageItems free { r with invalid := true } rest) ∧
    (validItem it → (∃ x ∈ r.items, x.channel = it.channel) →
      stageItems free r (it :: rest) =
        stageItems free { r with items := r.items.map fun x => if x.channel = it.channel then it else x } rest) ∧
    (validItem it → (∀ x ∈ r.items, x.channel ≠ it.channel) →
      (free = 0 → stageItems free r (it :: rest) = stageItems free { r with short := true } rest) ∧
      (0 < free → ∃ front back, r.items = front ++ back ∧
        stageItems free r (it :: rest) = stageItems (free - 1) { r with items := front ++ it :: back } rest ∧
          (ItemsSound r.items → ItemsSound (front ++ it :: back))))

/-- R32, R33, R35, R123: a CALL that finds its record in STAGING with every check passed: the record is VOTED with the
epoch, the count and the window end, its channels are claimed, and READY is handed over with the slots still in use. -/
def Obligations.CallVotesReady : Prop :=
  ∀ (s : State) (set : SetId) (epoch : NetTime) (targets : List CallEntry) (k count : Nat) (i : Fin 4) (r : SetRecord),
    memberReceives s set.proposer → (Body.call set epoch targets).formed set.proposer = true →
    targets[k]?.map (fun e => (e.station, e.count.toNat)) = some (s.ctl.number, count) →
    isRecord s set i r → r.state = .staging →
    (voteTests s r count epoch).all (·.1) = true →
    let n := targets.length
    let windowEnd := s.clock.osc + (12 + 128 * n) * bitTime s.ctl.rate
    let u := called set.proposer n s
    let claims := Vector.ofFn fun c : Fin 16 => if r.items.any (onChannel c) then some set else s.part.claims[c]
    let voted :=
      { r with state := .voted, epoch := some epoch, expected := some count, windowEnd := some windowEnd, timer := some windowEnd }
    exec (.call set.proposer set epoch targets) s = .next (handsReply set k .ready
      (u.setPart { u.part with table := u.part.table.set i.val (some voted), claims := claims }))

/-- R32, R34, R35: a CALL refused. The first failing check gives the reason; a STAGING record is freed, without a notice
or a closed entry; without a record the reason is NO_ROOM or UNKNOWN_SET; a record past STAGING is left and counted. A
CALL that does not name this station, or of another proposer's set, changes no participant state (R28). -/
def Obligations.CallRefused : Prop :=
  ∀ (s : State) (src : Station) (set : SetId) (epoch : NetTime) (targets : List CallEntry),
    memberReceives s src → (Body.call set epoch targets).formed src = true →
    let u := called src targets.length s
    (set.proposer ≠ src → exec (.call src set epoch targets) s = .next (oneAnomaly u)) ∧
    (set.proposer = src → (∀ e ∈ targets, e.station ≠ s.ctl.number) →
      exec (.call src set epoch targets) s = .next u) ∧
    ∀ k count : Nat, set.proposer = src →
      targets[k]?.map (fun e => (e.station, e.count.toNat)) = some (s.ctl.number, count) →
      (noRecord s set → exec (.call src set epoch targets) s =
        .next (handsReply set k (.refused (if closedFor s set .noRoom then .noRoom else .unknownSet)) u)) ∧
      ∀ (i : Fin 4) (r : SetRecord), isRecord s set i r →
        (r.state ≠ .staging → exec (.call src set epoch targets) s =
          .next (handsReply set k (.refused .unknownSet) (oneAnomaly u))) ∧
        (r.state = .staging → s.line.queue.any (isInquireFor set) = false →
          ∀ x, (voteTests s r count epoch).find? (fun y => !y.1) = some x →
            exec (.call src set epoch targets) s = .next (handsReply set k (.refused x.2) (withRecord i none u)))

/-! ### Decisions at a target (Chapter 2) -/

/-- R38, R39, R40 on a record of its set in VOTED or IN_DOUBT before its epoch: COMMIT and DECISION(COMMITTED) arm it with
its claims and items kept; ABORT and the other DECISIONs free it with SET_DROPPED, releasing its claims alone. No other
record, channel or list entry changes, nor the draft or the open proposal; its queued INQUIRE is withdrawn, and no other frame. An epoch
exactly 2^47 away counts as not yet reached: the model's choice (log 41). -/
def Obligations.DecisionsOnAVotedRecord : Prop :=
  ∀ (s : State) (set : SetId) (i : Fin 4) (r : SetRecord) (e : NetTime), memberReceives s set.proposer → set.seq ≠ 0 →
    isRecord s set i r → r.state = .voted ∨ r.state = .inDoubt → r.epoch = some e →
    sdiff s.time.now e < 0 → s.line.queue.countP (isInquireFor set) ≤ 1 →
    (∀ out, outstandingFrame s = some out → isProposalFrame out.frame = true) →
    let same (t : State) : Prop :=
      (∀ j, j ≠ i → t.part.table[j] = s.part.table[j]) ∧ t.part.closed = s.part.closed ∧ t.chans = s.chans ∧
        t.time = s.time ∧ bystanders s t ∧ t.clock = s.clock ∧ proposerStays s t ∧
        t.memb = (delivered set.proposer s).memb ∧
        withdraws (isInquireFor set · = true) s t.line.queue ∧
        lineBystanders (afterFrame s) t ∧ attemptStays (fun _ => False) s t
    (∀ c ∈ [Instr.commit set.proposer set, .decision set.proposer s.ctl.number set .committed],
      ∃ t, exec c s = .next t ∧ t.part.table[i] = some { r with state := .armed, timer := none } ∧
        t.part.claims = s.part.claims ∧ t.notes = (delivered set.proposer s).notes ∧ same t) ∧
    ∀ c ∈ ([.decision set.proposer s.ctl.number set .aborted, .decision set.proposer s.ctl.number set .unknown] : List Instr) ++
        ([AbortReason.refused, .noReply, .late, .withdrawn, .lockLost, .targetAbsent, .selfRefused].map
          fun reason => Instr.abort set.proposer set reason),
      ∃ t, exec c s = .next t ∧ t.part.table[i] = none ∧ isPending .setDropped t = true ∧
        raisesOnly [.setDropped] (delivered set.proposer s) t ∧ same t ∧ ∀ c : Fin 16, t.part.claims[c] =
          if r.items.any (onChannel c) = true ∧ s.part.claims[c] = some r.set then none else s.part.claims[c]

/-- R38, R39, R40, R28: the decision frames that arm and free nothing that had voted: on an ARMED record, on a STAGING one
(an ABORT frees it, without a notice), on no record, and from another station than the set's proposer. -/
def Obligations.DecisionsOnOtherRecords : Prop :=
  ∀ (s : State) (src : Station) (set : SetId) (reason : AbortReason) (outcome : DecisionOutcome),
    memberReceives s src → set.seq ≠ 0 →
    let u := delivered src s
    let own := s.ctl.number
    (set.proposer ≠ src →
      exec (.commit src set) s = .next (oneAnomaly u) ∧ exec (.abort src set reason) s = .next (oneAnomaly u) ∧
        exec (.decision src own set outcome) s = .next (oneAnomaly u)) ∧
    (∀ dest, dest ≠ own → exec (.decision src dest set outcome) s = .next u) ∧
    (set.proposer = src → ∀ (i : Fin 4) (r : SetRecord), isRecord s set i r →
      (r.state = .armed →
        exec (.commit src set) s = .next (oneAnomaly u) ∧ exec (.abort src set reason) s = .next (oneAnomaly u) ∧
          exec (.decision src own set outcome) s = .next (if outcome = .committed then u else oneAnomaly u)) ∧
      (r.state = .staging →
        exec (.commit src set) s = .next (oneAnomaly u) ∧
          exec (.decision src own set outcome) s = .next (oneAnomaly u) ∧
          (s.line.queue.any (isInquireFor set) = false →
            exec (.abort src set reason) s = .next (withRecord i none u)))) ∧
    (set.proposer = src → noRecord s set →
      exec (.abort src set reason) s = .next u ∧
        (outcome ≠ .committed → exec (.decision src own set outcome) s = .next u) ∧
        ((∀ e ∈ s.part.closed, e.set = set → e.kind = .noRoom) →
          exec (.commit src set) s = .next u ∧ exec (.decision src own set .committed) s = .next u))

/-- R41 with R43: a COMMIT or DECISION(COMMITTED) after the epoch. A record that has not yet met its epoch expires first;
the EXPIRED entry is answered with one MISSED, the flag being set when the queue takes it, and not again. The draft and the open
proposal stay. That a record at or
past its epoch expires within the frame, before the answer, is the model's choice (log 27). -/
def Obligations.LateCommitIsAnsweredWithMissed : Prop :=
  ∀ (s : State) (set : SetId), memberReceives s set.proposer → set.seq ≠ 0 →
    let u := delivered set.proposer s
    let missed : Frame := { src := s.ctl.number, dest := some set.proposer, body := .missed set }
    ∀ c ∈ [Instr.commit set.proposer set, .decision set.proposer s.ctl.number set .committed],
      (noRecord s set → (∃ e ∈ s.part.closed, e.set = set ∧ e.kind = .expired ∧ e.missedSent = false) →
        exec c s = .next
          (if s.line.queue.length < 12 then
             (u.setLine { u.line with queue := insertFrame missed s.line.queue }).setPart
               { s.part with closed := s.part.closed.map fun e =>
                   if e.set = set ∧ e.kind = .expired then { e with missedSent := true } else e }
           else u)) ∧
      (noRecord s set → (∀ e ∈ s.part.closed, e.set = set → e.kind = .expired → e.missedSent = true) →
        exec c s = .next u) ∧
      ∀ (i : Fin 4) (r : SetRecord) (e : NetTime), isRecord s set i r →
        r.state = .voted ∨ r.state = .inDoubt → r.self = false → r.epoch = some e → 0 ≤ sdiff s.time.now e →
        s.line.queue.length < 12 →
        ∃ t, exec c s = .next t ∧ t.part.table[i] = none ∧ isPending .setDropped t = true ∧
          t.part.closed = closedWith { set := set, kind := .expired, missedSent := true } s.part.closed ∧
          missed ∈ t.line.queue ∧
          (s.line.queue.countP (isInquireFor set) ≤ 1 →
            (∀ out, outstandingFrame s = some out → isProposalFrame out.frame = true) →
            ∃ q, withdraws (isInquireFor set · = true) s q ∧ t.line.queue = insertFrame missed q) ∧
          t.chans = s.chans ∧ t.time = s.time ∧ t.memb = u.memb ∧ t.clock = s.clock ∧
          bystanders s t ∧ raisesOnly [.setDropped] u t ∧ (∀ j, j ≠ i → t.part.table[j] = s.part.table[j]) ∧
          (∀ c : Fin 16, t.part.claims[c] =
            if r.items.any (onChannel c) = true ∧ s.part.claims[c] = some r.set then none else s.part.claims[c]) ∧
          lineBystanders (afterFrame s) t ∧ attemptStays (fun _ => False) s t ∧ proposerStays s t

/-! ### REPLY, INQUIRE, MISSED, PRESENCE (Chapters 3 and 6) -/

/-- R65, R104: a REPLY taken in its slot sets its target's result once; any other REPLY to this station is counted and
leaves the proposal; every REPLY, to whichever station, reports its sender's free slots. -/
def Obligations.ReplySetsItsTargetsResult : Prop :=
  ∀ (s : State) (src dest : Station) (set : SetId) (verdict : Verdict) (slots : Byte), memberReceives s src →
    set.seq ≠ 0 → slots.toNat ≤ 32 →
    let v := delivered src s
    let entries := v.memb.entries.set src.val { v.memb.entries[src] with slots := some slots.toNat }
    let u := v.setMemb { v.memb with entries := entries }
    (dest ≠ s.ctl.number → exec (.reply src dest set verdict slots) s = .next u) ∧
    (∀ (p : Proposal) (k : Nat) (e : TargetEntry) (edge start : Instant), dest = s.ctl.number →
      s.prop.activity = .active p → p.phase = .voting → p.set = set → p.targets[k]? = some e → e.station = src →
      (∀ (j : Nat) (f : TargetEntry), j < k → p.targets[j]? = some f → f.station ≠ src) → e.result = .pending →
      s.line.frameStart = some edge → p.windowStart = some start →
      start + 128 * k * bitTime s.ctl.rate ≤ edge → edge < start + 128 * (k + 1) * bitTime s.ctl.rate →
      let result := match verdict with | .ready => TargetResult.ready | .refused reason => TargetResult.refused reason
      let activity := Activity.active { p with targets := p.targets.set k { e with result := result } }
      exec (.reply src dest set verdict slots) s = .next (u.setProp { u.prop with activity := activity })) ∧
    (dest = s.ctl.number →
      (∀ (p : Proposal) (k : Nat) (e : TargetEntry), s.prop.activity = .active p → p.targets[k]? = some e →
        e.station = src → p.phase ≠ .voting ∨ p.set ≠ set ∨ e.result ≠ .pending ∨
          ∀ edge start : Instant, s.line.frameStart = some edge → p.windowStart = some start →
            edge < start + 128 * k * bitTime s.ctl.rate ∨ start + 128 * (k + 1) * bitTime s.ctl.rate ≤ edge) →
      exec (.reply src dest set verdict slots) s = .next (oneAnomaly u))

/-- R75: INQUIRE by what its set id names; the answer changes the queue alone, and a full queue drops it. R76: MISSED
turns a READY result of its source into MISSED, with LATE_REPORT, and changes nothing else of the log; again it is
ignored; anything else is counted. -/
def Obligations.InquireAndMissedMeetTheLog : Prop :=
  ∀ (s : State) (src : Station) (set : SetId), memberReceives s src → set.seq ≠ 0 →
    let u := delivered src s
    let own := s.ctl.number
    let answered (outcome : DecisionOutcome) : State :=
      let frame : Frame := { src := own, dest := some src, body := .decision set outcome }
      if s.line.queue.length < 12 then u.setLine { u.line with queue := insertFrame frame s.line.queue } else u
    (∀ dest, dest ≠ own → exec (.inquire src dest set) s = .next u) ∧
    (set.proposer ≠ own → exec (.inquire src own set) s = .next (oneAnomaly u)) ∧
    (set.proposer = own →
      (∀ p, s.prop.activity = .active p → p.set = set → exec (.inquire src own set) s = .next u) ∧
      ((∀ p, s.prop.activity = .active p → p.set ≠ set) →
        (∀ e, s.prop.log.find? (fun x => x.set == set) = some e →
          exec (.inquire src own set) s = .next (answered (if e.abort.isSome then .aborted else .committed))) ∧
        ((∀ e ∈ s.prop.log, e.set ≠ set) → exec (.inquire src own set) s = .next (answered .unknown)))) ∧
    ((s.prop.log.map (·.set)).Nodup →
    (∀ dest, dest ≠ own → exec (.missed src dest set) s = .next u) ∧
    (set.proposer ≠ own → exec (.missed src own set) s = .next (oneAnomaly u)) ∧
    (set.proposer = own →
      ((∀ e ∈ s.prop.log, e.set ≠ set) → exec (.missed src own set) s = .next (oneAnomaly u)) ∧
      ∀ e ∈ s.prop.log, e.set = set →
        ((∀ x ∈ e.targets, x.station ≠ src) → exec (.missed src own set) s = .next (oneAnomaly u)) ∧
        ∀ x, e.targets.find? (fun y => y.station == src) = some x →
          (x.result = .missed → exec (.missed src own set) s = .next u) ∧
          (x.result ≠ .ready → x.result ≠ .missed → exec (.missed src own set) s = .next (oneAnomaly u)) ∧
          (x.result = .ready →
            let targets := e.targets.map fun y => if y.station = src then { y with result := .missed } else y
            let log := s.prop.log.map fun y => if y = e then { e with targets := targets } else y
            exec (.missed src own set) s = .next
              ((u.setProp { s.prop with log := log }).setNotes { u.notes with flags := u.notes.flags ||| 128 }))))

/-- R102, R103: a PRESENCE marks its sender PRESENT and replaces the three reported fields. R105, R50: with its join flag
it also frees every record of its sender's sets, of any state, with their queued INQUIREs and no other frame, and its closed
entries, keeps every other record, closed entry and channel, and raises MEMBER; a pending swap's claim stays, and so do the draft and
an open proposal, be the sender one of its targets or not. -/
def Obligations.PresenceReportsAndJoinPurges : Prop :=
  ∀ (s : State) (src : Station) (lock : LockState) (records slots : Byte), memberReceives s src →
    records.toNat ≤ 4 → slots.toNat ≤ 32 →
    let entry : MemberEntry :=
      { state := .present, missed := 0, heard := true, lastHeard := some s.time.now, lock := some lock,
        records := some records.toNat, slots := some slots.toNat }
    let memb := { s.memb with entries := s.memb.entries.set src.val entry }
    (exec (.presence src lock records slots false) s = .next
      { afterFrame s with
        memb := memb
        notes :=
          if s.memb.entries[src].state = .absent ∨ s.memb.entries[src].state = .silent then
            { s.notes with flags := s.notes.flags ||| 256 }
          else s.notes }) ∧
    (ClaimsSound s →
    ∃ t, exec (.presence src lock records slots true) s = .next t ∧ isPending .member t = true ∧
      (∀ i : Fin 4, t.part.table[i] = if s.part.table[i].any (fun r => r.set.proposer == src) then none else s.part.table[i]) ∧
      t.part.closed = s.part.closed.filter (fun e => e.set.proposer != src) ∧ t.chans = s.chans ∧
      ((∃ i : Fin 4, s.part.table[i].any (fun r => r.set.proposer == src) = true) → isPending .setDropped t = true) ∧
      (∀ c : Fin 16, t.part.claims[c] =
        if (s.part.claims[c].any (fun x => x.proposer == src)) = true ∧ s.chans[c].pending = none then none
        else s.part.claims[c]) ∧
      t.memb = memb ∧ proposerStays s t ∧ t.time = s.time ∧ t.clock = s.clock ∧
      bystanders s t ∧ raisesOnly [.member, .setDropped] s t ∧ lineBystanders (afterFrame s) t ∧
      attemptStays (fun _ => False) s t ∧
      ((∀ set, s.line.queue.countP (isInquireFor set) ≤ 1) →
        (∀ out, outstandingFrame s = some out → isProposalFrame out.frame = true) →
        withdraws (fun f => ∃ (i : Fin 4) (r : SetRecord), s.part.table[i] = some r ∧ r.set.proposer = src ∧
          isInquireFor r.set f = true) s t.line.queue))

/-! ### Sending (Chapter 7) -/

/-- R117, R120, R93, R109, R82: an attempt begins exactly under R117's conditions: with the head of the queue, its SYNC
time or PRESENCE figures filled now, its start edge recorded and sampled, the queue unchanged. That the bit-time boundaries
of the idle line count from the end of its gap is the model's choice (log 8), and so is that ATTEMPT_START sent outside those
conditions changes nothing (log 6). R113: while an attempt is on the line, LTX is
driven dominant in bit k of its frame exactly when that bit is 0: the start bit of each character, or one of its data bits, most
significant first, that is 0; never in a stop bit, nor past the frame, nor with no attempt. R116: with an abort's drive under way it
is dominant until the end of that drive (`abortedOnLine`, `driveEnd`), and not from there on. A hard reset apart. The bit times of
the four rates are R113's, in half microseconds. -/
def Obligations.AttemptStartsUnderItsConditions : Prop :=
  [LineRate.k250, .k500, .m1, .m2].map bitTime = [8, 4, 2, 1] ∧
  (∀ (s : State) (f : Frame) (rest : List Frame), s.line.queue = f :: rest →
    let may := s.ctl.state = .member ∧ s.line.mute = none ∧ (∀ e, s.line.reservation = some e → e ≤ s.clock.osc) ∧
      s.line.attempt = none ∧ s.line.observed = some .idle ∧ (s.clock.osc - s.line.since) % bitTime s.ctl.rate = 0
    let sent := match f.body with
      | .sync _ => { f with body := .sync s.time.now }
      | .presence _ _ _ join =>
        let body := Body.presence s.time.lock (BitVec.ofNat 8 (recordsLeft s)) (BitVec.ofNat 8 (slotsLeft s)) join
        { f with body := body }
      | _ => f
    (may → exec .attemptStart s = .next ((s.setLine
      { s.line with
        observed := some .frame
        since := s.clock.osc
        frameStart := some s.clock.osc
        attempt := some { reply := false, entry := f, sent := sent, start := s.clock.osc } }).setTime
      { s.time with sample := some s.time.now })) ∧
    (¬ may → exec .attemptStart s = .next s)) ∧
  (∀ (s : State) (e : Instant), s.ctl.resetting = false → s.line.attempt = none → s.line.driveUntil = some e →
    (ltxDominant s = true ↔ s.clock.osc < e)) ∧
  ∀ s : State, s.ctl.resetting = false → (∀ e, s.line.driveUntil = some e → e ≤ s.clock.osc) →
    (s.line.attempt = none → ltxDominant s = false) ∧
    ∀ a, s.line.attempt = some a →
      let k := (s.clock.osc - a.start) / bitTime s.ctl.rate
      (ltxDominant s = true ↔ ∃ ch : Byte, (encodeFrame a.sent)[k / 10]? = some ch ∧
        (k % 10 = 0 ∨ 1 ≤ k % 10 ∧ k % 10 ≤ 8 ∧ ch.getLsbD (8 - k % 10) = false))

/-- R118, R119, R121, R122: an arbitration loss ends the attempt uncounted as a failure and keeps the queue; a bit error
or a break fails it, and the sixteenth failure in a row, by either, mutes the station with LINE. That a loss is given as the
data bit at which it shows, within the first nine bit times, is the model's choice (log 22); so is taking bit errors and
breaks as the sender gives them (log 23). -/
def Obligations.AttemptsEndByLossOrFailure : Prop :=
  ∀ (s : State) (a : Attempt), s.line.attempt = some a →
    (∀ bit : Fin 8, (BitVec.ofNat 8 a.entry.arbitration).getLsbD (7 - bit.val) = true →
      (s.clock.osc - a.start) / bitTime s.ctl.rate < 9 →
      let counters :=
        { s.line.counters with arbitrationLosses := min (s.line.counters.arbitrationLosses + 1) 65535 }
      exec (.arbitrationLoss bit) s = .next (s.setLine { s.line with attempt := none, counters := counters })) ∧
    (let counters := { s.line.counters with bitErrors := min (s.line.counters.bitErrors + 1) 65535 }
     (s.line.failures < 15 → exec .bitError s = .next (s.setLine
        { s.line with attempt := none, failures := s.line.failures + 1, counters := counters })) ∧
     (s.line.failures = 15 → exec .bitError s = .next ((s.setLine
        { s.line with
          attempt := none
          failures := 16
          mute := some 0
          counters := { counters with mutes := min (s.line.counters.mutes + 1) 65535 } }).setNotes
        { s.notes with flags := s.notes.flags ||| 2 }))) ∧
    (s.ctl.state ≠ .config → s.line.observed ≠ some .brk →
      let counters := { s.line.counters with breaks := min (s.line.counters.breaks + 1) 65535 }
      let broken := { s.line with attempt := none, observed := some .brk, since := s.clock.osc, counters := counters }
      (s.line.failures < 15 → exec .breakDetected s = .next ((s.setLine
        { broken with failures := s.line.failures + 1 }).setNotes { s.notes with flags := s.notes.flags ||| 2 })) ∧
      (s.line.failures = 15 → exec .breakDetected s = .next ((s.setLine
        { broken with
          failures := 16
          mute := some 0
          counters := { counters with mutes := min (s.line.counters.mutes + 1) 65535 } }).setNotes
        { s.notes with flags := s.notes.flags ||| 2 })))

/-- R122, R123, R124: MUTE_END after 100,000 microseconds and RESERVATION_END at its instant; sent before, they change nothing, and
so does REPLY_SLOT_START before every slot start (log 6). At a REPLY's slot start, wherever it stands in the list, it is begun on an
idle line, and otherwise taken from the list without a frame; of several with one slot start the first handed over is taken first
(the model's choice, log 38). -/
def Obligations.MutesReservationsAndReplySlots : Prop :=
  ∀ s : State,
    (∀ t, s.line.mute = some t → exec .muteEnd s = .next
      (if 100000 ≤ t then s.setLine { s.line with mute := none, failures := 0 } else s)) ∧
    (∀ e, s.line.reservation = some e → exec .reservationEnd s = .next
      (if e ≤ s.clock.osc then s.setLine { s.line with reservation := none } else s)) ∧
    ((∀ r ∈ s.line.replies, s.clock.osc < r.start) → exec .replySlotStart s = .next s) ∧
    ∀ (r : PendingReply) (earlier later : List PendingReply), s.line.replies = earlier ++ r :: later →
      (∀ x ∈ earlier, s.clock.osc < x.start) → r.start = s.clock.osc → r.frame.body.kind = .reply →
      (s.ctl.state = .member ∧ s.line.mute = none ∧ s.line.attempt = none ∧ s.line.observed = some .idle →
        exec .replySlotStart s = .next ((s.setLine
          { s.line with
            replies := earlier ++ later
            observed := some .frame
            since := s.clock.osc
            frameStart := some s.clock.osc
            attempt := some { reply := true, entry := r.frame, sent := r.frame, start := s.clock.osc } }).setTime
          { s.time with sample := some s.time.now })) ∧
      (s.line.mute ≠ none ∨ s.line.observed = some .frame ∨ s.line.observed = some .brk ∨
          (∃ n, s.line.observed = some (.gap n)) →
        exec .replySlotStart s = .next (s.setLine { s.line with replies := earlier ++ later }))

/-- R94, R110, R120, R124, R108: a SYNC sent restarts its timers, a join announcement sent becomes SENT, and each frame sent
restarts the presence timer. A REPLY sent frees no entry; any other gives a proposal's frame that waits for room its place
(R62, R116). -/
def Obligations.SyncPresenceAndReplySent : Prop :=
  ∀ (s : State) (a : Attempt), sentNow s a → s.line.observed = some .frame →
    let memb := { s.memb with presence := s.memb.presence.map fun _ => 0 }
    (∀ t, a.reply = false → a.entry.body = .sync t → exec .frameSent s = .next (offerWaiting
      { s with
        line := lineAfterSending s a.entry
        time := { s.time with ownSync := false, supervision := some 0, syncTimer := some 0 }
        memb := memb })) ∧
    (∀ lock records slots join, a.reply = false → a.entry.body = .presence lock records slots join →
      exec .frameSent s = .next (offerWaiting
        { s with
          line := lineAfterSending s a.entry
          memb := { memb with ownPresence := false, announced := s.memb.announced || join } })) ∧
    (∀ set outcome, a.reply = false →
      a.entry.body = .decision set outcome ∨ a.entry.body = .inquire set ∨ a.entry.body = .missed set →
      exec .frameSent s = .next (offerWaiting { s with line := lineAfterSending s a.entry, memb := memb })) ∧
    (a.reply = true → exec .frameSent s = .next
      { s with line := { lineAfterSending s a.entry with queue := s.line.queue }, memb := memb })

/-- R61, R63, R64: a STAGE sent is followed by the next STAGE, grouped as R61 says; the last one by the checks of R63 in their
order, the self vote of R47 among them, and then the CALL of all targets, or ABORTING with the reason of the check that
fails. A CALL sent opens the reply window and the reservation, to the later of two ends (R123). That this order stands at and
past the epoch too, where R69 gives LATE, and whatever WITHDRAW comes after the report, where R70 gives WITHDRAWN, are the model's
choices (logs 40 and 43), and so is the advance of the next STAGE position at the
sent report, and not when the next STAGE is placed (log 25). -/
def Obligations.StageThenCallThenWindow : Prop :=
  ∀ (s : State) (a : Attempt) (p : Proposal), sentNow s a → s.line.observed = some .frame → a.reply = false →
    a.entry ∈ s.line.queue → s.prop.activity = .active p → s.line.queue.length ≤ 12 →
    (∀ set items sent, a.entry.body = .stage set items → p.phase = .staging →
      isStageGroup (p.items.drop p.nextStage) sent →
      let next := p.nextStage + sent.length
      let queue := s.line.queue.erase a.entry
      (∀ first rest, isStageGroup (p.items.drop next) (first :: rest) →
        let frame : Frame := { src := s.ctl.number, dest := some first.target, body := .stage p.set ((first :: rest).map (·.item)) }
        ∃ t, exec .frameSent s = .next t ∧ sentFrom s t ∧ t.part = s.part ∧ t.notes = s.notes ∧
          t.prop = { s.prop with
            activity := .active { p with
              nextStage := next, outstanding := some { frame := frame, queued := true } } } ∧
          t.line.reservation = s.line.reservation ∧ t.line.queue = insertFrame frame queue) ∧
      (p.items.length ≤ next → s.line.queue.countP isProposalFrame ≤ 1 →
        (∀ f ∈ s.line.queue, isInquireFor p.set f = false) →
        let list := p.targets.map fun x => ({ station := x.station, count := BitVec.ofNat 8 x.count } : CallEntry)
        let call : Frame := { src := s.ctl.number, dest := none, body := .call p.set p.epoch list }
        let q := { p with nextStage := next }
        let present := ∀ x ∈ p.targets, s.memb.entries[x.station].state = .present
        let early := ((4096 * bitTime s.ctl.rate / 2 : Nat) : Int) ≤ sdiff p.epoch s.time.now
        let calls (q : Proposal) (t : State) : Prop := t.line.queue = insertFrame call queue ∧ t.prop = { s.prop with
          activity := .active { q with phase := .calling, outstanding := some { frame := call, queued := true } } }
        ∃ t, exec .frameSent s = .next t ∧ sentFrom s t ∧ t.line.reservation = s.line.reservation ∧
          (¬ present → entersAborting q .targetAbsent queue s t ∧ freesSelf p.set s t ∧ raisesOnly [.setDropped] s t) ∧
          (present → p.selfIncluded = false →
            (early → calls q t ∧ t.part = s.part ∧ t.notes = s.notes) ∧
            (¬ early → entersAborting q .late queue s t ∧ freesSelf p.set s t ∧ raisesOnly [.setDropped] s t)) ∧
          (present → p.selfIncluded = true → noSelfRecord s p.set → ¬ closedFor s p.set .noRoom →
            entersAborting { q with selfResult := .refused .unknownSet } .selfRefused queue s t ∧ t.part = s.part ∧
              t.notes = s.notes) ∧
          ∀ (i : Fin 4) (r : SetRecord), present → p.selfIncluded = true → isSelfRecord s p.set i r →
            r.state = .staging → (∀ j, j ≠ i → s.part.table[j].map (·.set) ≠ some p.set) →
            let freed := { s.part with table := s.part.table.set i.val none }
            (∀ x, (voteTests s r p.selfCount p.epoch).find? (fun y => !y.1) = some x →
              entersAborting { q with selfResult := .refused x.2 } .selfRefused queue s t ∧ t.part = freed ∧
                t.notes = s.notes) ∧
            ((voteTests s r p.selfCount p.epoch).all (·.1) = true →
              (early → calls { q with selfResult := .ready } t ∧ t.notes = s.notes ∧
                t.part = { s.part with
                  table := s.part.table.set i.val (some
                    { r with
                      state := .voted, epoch := some p.epoch, expected := some p.selfCount, windowEnd := none
                      timer := none })
                  claims := Vector.ofFn fun c : Fin 16 =>
                    if r.items.any (onChannel c) then some p.set else s.part.claims[c] }) ∧
              (¬ early → entersAborting { q with selfResult := .ready } .late queue s t ∧ t.part = freed ∧
                t.notes = { s.notes with flags := s.notes.flags ||| 16 })))) ∧
    ∀ set epoch targets, a.entry.body = .call set epoch targets → p.phase = .calling →
      targets.length = p.targets.length →
      let open12 := s.clock.osc + 12 * bitTime s.ctl.rate
      let last := open12 + 128 * p.targets.length * bitTime s.ctl.rate
      ∃ t, exec .frameSent s = .next t ∧ sentFrom s t ∧ t.part = s.part ∧ t.notes = s.notes ∧
        t.line.queue = s.line.queue.erase a.entry ∧
        t.prop = { s.prop with
          activity := .active { p with
            phase := .voting, callSent := true, outstanding := none, windowStart := some open12, windowEnd := some last } } ∧
        t.line.reservation = some (match s.line.reservation with | some e => max last e | none => last)

/-- R67, R68, R72, R73, R120: a COMMIT sent before the epoch closes the proposal COMMITTED, an ABORT sent closes it ABORTED with
its stored reason: OUTCOME, IDLE, one entry at the newest place of the log, where an older entry of the set id and then the oldest of
eight are gone and every other stays, and the frame gone from the transmit queue. The self
record that voted becomes ARMED at a COMMIT (R48), which withdraws an INQUIRE queued for its set, when there is one (R37, R38); with
no self record that voted the table stays. An epoch exactly 2^47 away counts as not yet reached: the model's choice (log 41). -/
def Obligations.CommitOrAbortSentClosesTheProposal : Prop :=
  ∀ (s : State) (a : Attempt) (p : Proposal) (set : SetId), sentNow s a → s.line.observed = some .frame →
    a.reply = false → s.prop.activity = .active p →
    let closed (t : State) (abort : Option AbortReason) : Prop :=
      t.prop = { s.prop with activity := .idle, log := loggedWith (entryOf p abort) s.prop.log } ∧
        isPending .outcome t = true ∧ sentFrom s t ∧ t.part.claims = s.part.claims ∧
        t.part.closed = s.part.closed ∧ raisesOnly [.outcome] s t ∧ t.line.reservation = s.line.reservation
    (p.phase = .committing → a.entry.body = .commit set → sdiff s.time.now p.epoch < 0 →
      ∃ t, exec .frameSent s = .next t ∧ closed t none ∧
        (t.line.queue.filter fun f => !isInquireFor p.set f) =
          ((s.line.queue.erase a.entry).filter fun f => !isInquireFor p.set f) ∧
        ((∀ f ∈ s.line.queue, isInquireFor p.set f = false) → t.line.queue = s.line.queue.erase a.entry) ∧
        (noSelfRecord s p.set → t.part.table = s.part.table ∧ t.line.queue = s.line.queue.erase a.entry) ∧
        ∀ (i : Fin 4) (r : SetRecord), isSelfRecord s p.set i r →
          (r.state = .voted → t.part.table = s.part.table.set i.val (some { r with state := .armed, timer := none })) ∧
          (r.state ≠ .voted → t.part.table = s.part.table ∧ t.line.queue = s.line.queue.erase a.entry)) ∧
    ∀ (reason abort : AbortReason), p.phase = .aborting → p.abortReason = some reason →
      a.entry.body = .abort set abort → p.callSent = false ∨ sdiff s.time.now p.epoch < 0 →
      ∃ t, exec .frameSent s = .next t ∧ closed t (some reason) ∧ t.part.table = s.part.table ∧
        t.line.queue = s.line.queue.erase a.entry

/-! ### The window end and the epoch of the proposal (Chapter 3) -/

/-- R66 with R68, R72, R73 and R48: at the window end results still PENDING become NO_REPLY, and the proposal commits, enters
ABORTING, or, at or after its epoch, closes ABORTED at once, its entry the newest of the log; the reason is the first that applies.
COMMIT or ABORT takes its place in the queue when there is room (R62, R115). A self record goes with an abort. WINDOW_END sent before the window end changes nothing: the model's choice (log 6). -/
def Obligations.WindowEndDecidesTheVote : Prop :=
  ∀ (s : State) (p : Proposal) (e : Instant), s.prop.activity = .active p → p.phase = .voting → p.windowEnd = some e →
    p.outstanding = none → s.line.queue.countP isProposalFrame = 0 →
    let settled := p.targets.map fun t => if t.result = .pending then { t with result := .noReply } else t
    let lead := sdiff p.epoch s.time.now
    let ready := p.lockLost = false ∧ (∀ t ∈ settled, t.result = .ready) ∧
      ((256 * bitTime s.ctl.rate / 2 : Nat) : Int) ≤ lead
    let reason : AbortReason :=
      if p.lockLost then .lockLost
      else if ∃ t ∈ settled, t.result ≠ .ready ∧ t.result ≠ .noReply ∧ t.result ≠ .missed then .refused
      else if ∃ t ∈ settled, t.result = .noReply then .noReply
      else .late
    let commit : Frame := { src := s.ctl.number, dest := none, body := .commit p.set }
    let abort : Frame := { src := s.ctl.number, dest := none, body := .abort p.set reason }
    let freed (t : State) : Prop := freesSelf p.set s t ∧ t.chans = s.chans ∧ t.time = s.time ∧ t.memb = s.memb ∧
      t.clock = s.clock ∧ t.prop.sequence = s.prop.sequence ∧ bystanders s t ∧ lineBystanders s t ∧
      attemptStays (isInquireFor p.set · = true) s t ∧
      keepsQueued (fun f => isProposalFrame f = true ∨ isInquireFor p.set f = true) s t.line.queue
    (s.clock.osc < e → exec .windowEnd s = .next s) ∧
    (e ≤ s.clock.osc → ready →
      exec .windowEnd s = .next
        ((s.setLine { s.line with queue := queueOffered commit s.line.queue }).setProp { s.prop with
          activity := .active { p with
            targets := settled
            phase := .committing
            outstanding := some { frame := commit, queued := decide (s.line.queue.length < 12) } } })) ∧
    (e ≤ s.clock.osc → ¬ ready → 0 < lead →
      ∃ (t : State) (q : Proposal), exec .windowEnd s = .next t ∧ t.prop.activity = .active q ∧
        (∃ out, q =
          { p with targets := settled, phase := .aborting, abortReason := some reason, outstanding := out }) ∧
        abortQueued p abort s t ∧ t.prop.log = s.prop.log ∧ raisesOnly [.setDropped] s t ∧ freed t) ∧
    (e ≤ s.clock.osc → ¬ ready → lead ≤ 0 →
      ∃ t, exec .windowEnd s = .next t ∧ isPending .outcome t = true ∧
        t.prop = { s.prop with
          activity := .idle, log := loggedWith (entryOf { p with targets := settled } (some reason)) s.prop.log } ∧
        t.line.queue.any isProposalFrame = false ∧ raisesOnly [.setDropped, .outcome] s t ∧ freed t)

/-- R67, R68, R69: what the epoch does to the open proposal. In STAGING and CALLING it aborts LATE with an ABORT; in
COMMITTING it withdraws the COMMIT and closes ABORTED(LATE); in ABORTING it withdraws the ABORT and closes with the stored
reason, but only once the CALL has been sent; in VOTING nothing happens. The ABORT takes its place in the queue as soon as there
is room (R62); a close leaves its whole entry, the SELF result with it, at the newest place of the log (R72, R73). A frame withdrawn
on the line is aborted there (R116). PROPOSER_EPOCH sent before the epoch changes nothing, and a last stop bit counts as on the line: the model's choices
(logs 6 and 34). -/
def Obligations.EpochOfTheOpenProposal : Prop :=
  ∀ s : State,
    ((∀ p, s.prop.activity ≠ .active p) → exec .proposerEpoch s = .next s) ∧
    ∀ p, s.prop.activity = .active p → s.line.queue.countP isProposalFrame ≤ 1 →
      (sdiff s.time.now p.epoch < 0 ∨ p.phase = .voting ∨ (p.phase = .aborting ∧ p.callSent = false) →
        exec .proposerEpoch s = .next s) ∧
      (0 ≤ sdiff s.time.now p.epoch →
        let freed (t : State) : Prop := freesSelf p.set s t ∧ t.chans = s.chans ∧ t.time = s.time ∧ t.memb = s.memb ∧
          t.clock = s.clock ∧ t.prop.sequence = s.prop.sequence ∧ bystanders s t ∧ lineBystanders s t ∧
          attemptStays (fun f => isProposalFrame f = true ∨ isInquireFor p.set f = true) s t ∧
          keepsQueued (fun f => isProposalFrame f = true ∨ isInquireFor p.set f = true) s t.line.queue
        let closed (reason : AbortReason) : Prop :=
          ∃ t, exec .proposerEpoch s = .next t ∧ isPending .outcome t = true ∧
            t.prop = { s.prop with activity := .idle, log := loggedWith (entryOf p (some reason)) s.prop.log } ∧
            t.line.queue.any isProposalFrame = false ∧ raisesOnly [.setDropped, .outcome] s t ∧ freed t ∧
            abortedOnLine (isProposalFrame · = true) s t
        (p.phase = .staging ∨ p.phase = .calling →
          ∃ (t : State) (q : Proposal), exec .proposerEpoch s = .next t ∧ t.prop.activity = .active q ∧
            (∃ out, q = { p with phase := .aborting, abortReason := some .late, outstanding := out }) ∧
            abortQueued p { src := s.ctl.number, dest := none, body := .abort p.set .late } s t ∧ t.prop.log = s.prop.log ∧
            raisesOnly [.setDropped] s t ∧ freed t ∧ abortedOnLine (isProposalFrame · = true) s t) ∧
        (p.phase = .committing → closed .late) ∧
        ∀ reason, p.phase = .aborting → p.callSent = true → p.abortReason = some reason → closed reason)

/-! ### Lock supervision, self-source, timers (Chapters 5 and 6) -/

/-- R88, R91, R71: the supervision timer takes LOCKED to HOLDOVER at 300,000 microseconds, raising LOCK; leaving LOCKED
withdraws an outstanding SYNC, and no other frame, and one on the line is aborted there (R116; a last stop bit counts as on the line,
log 34). HOLDOVER changes neither the draft nor an open proposal (R71), but that a frame of it that waits for room may take the SYNC's.
Sent before its time, or in the state it has left, the event changes nothing: the model's choice (log 6). -/
def Obligations.SupervisionEndsLocked : Prop :=
  ∀ (s : State) (n : Nat), s.time.supervision = some n →
    (s.time.lock = .locked ∧ n < 300000 ∨ s.time.lock = .acquiring ∧ n < 300000 ∨
        s.time.lock = .holdover ∧ n < 2000000 ∨ s.time.lock = .unlocked →
      exec .supervisionExpiry s = .next s) ∧
    (s.time.lock = .locked → 300000 ≤ n → s.time.ownSync = false →
      exec .supervisionExpiry s = .next ((s.setTime { s.time with lock := .holdover }).setNotes
        { s.notes with flags := s.notes.flags ||| 4 })) ∧
    (s.time.lock = .locked → 300000 ≤ n → s.time.ownSync = true → OwnersSound s →
      ∃ t, exec .supervisionExpiry s = .next t ∧ t.time = { s.time with lock := .holdover, ownSync := false } ∧
        withdraws (isSync · = true) s t.line.queue ∧
        isPending .lock t = true ∧ raisesOnly [.lock] s t ∧ t.chans = s.chans ∧ t.part = s.part ∧ t.memb = s.memb ∧
        t.clock = s.clock ∧ proposerStays s t ∧ bystanders s t ∧
        lineBystanders s t ∧ abortedOnLine (isSync · = true) s t ∧ attemptStays (isSync · = true) s t)

/-- R88, R90, R91 with R17, R49 and R71: HOLDOVER at 2,000,000 and ACQUIRING at 300,000 microseconds become UNLOCKED.
Pending swaps are dropped and each loss policy applied, every record freed with SET_DROPPED, every claim released, and
the proposal aborted with LOCK_LOST or marked, the rest of its record being kept; the recently-closed list, the log, the draft and a
proposal in ABORTING stay. The transmit queue
loses the freed records' INQUIREs and the proposal's STAGE, CALL or COMMIT, takes its ABORT when there is room, and keeps
the rest; a frame withdrawn on the line is aborted there (R37, R62, R116). That a frame whose last stop bit completes at that
instant counts as on the line is the model's choice (log 34). -/
def Obligations.LossOfLockReachesEveryBlock : Prop :=
  ∀ (s : State) (n : Nat), ClaimsSound s → s.time.supervision = some n →
    s.time.lock = .holdover ∧ 2000000 ≤ n ∨ s.time.lock = .acquiring ∧ 300000 ≤ n →
    ∃ t, exec .supervisionExpiry s = .next t ∧
      t.time =
        { s.time with
          lock := .unlocked
          supervision := none
          selfSource := if s.ctl.state = .joining ∨ s.ctl.state = .member then some 0 else none } ∧
      isPending .lock t = true ∧
      (∀ c : Fin 16, t.chans[c] =
        match s.chans[c].policy with
        | .forceSafe => { s.chans[c] with active := holdProgram s.chans[c].safe, anchor := 0, pending := none }
        | .continue => { s.chans[c] with pending := none }) ∧
      (∀ i : Fin 4, t.part.table[i] = none) ∧ (∀ c : Fin 16, t.part.claims[c] = none) ∧
      t.part.closed = s.part.closed ∧
      ((∃ i : Fin 4, s.part.table[i] ≠ none) → isPending .setDropped t = true) ∧
      ((∀ p, s.prop.activity = .active p → p.phase = .aborting) → proposerStays s t) ∧
      (∀ p, s.prop.activity = .active p →
        (p.phase = .staging ∨ p.phase = .calling ∨ p.phase = .committing →
          let abort : Frame := { src := s.ctl.number, dest := none, body := .abort p.set .lockLost }
          ∃ queued, t.prop =
              { s.prop with
                activity := .active { p with
                  phase := .aborting, abortReason := some .lockLost, outstanding := some { frame := abort, queued := queued } } } ∧
            (s.line.queue.countP isProposalFrame ≤ 1 → (queued = true ↔ abort ∈ t.line.queue))) ∧
        (p.phase = .voting → ∃ out, frameStays p.outstanding out s t ∧
          t.prop = { s.prop with activity := .active { p with lockLost := true, outstanding := out } })) ∧
      t.memb = s.memb ∧ t.clock = s.clock ∧ bystanders s t ∧ lineBystanders s t ∧
      raisesOnly [.lock, .setDropped] s t ∧
      (QueueSound s → OwnersSound s → (∀ set, s.line.queue.countP (isInquireFor set) ≤ 1) →
        let asks (f : Frame) : Prop := ∃ (i : Fin 4) (r : SetRecord), s.part.table[i] = some r ∧ isInquireFor r.set f = true
        (∀ f ∈ t.line.queue, ¬ asks f) ∧
        keepsQueued (fun f => asks f ∨ isProposalFrame f = true) s t.line.queue ∧
        ((∀ p, s.prop.activity = .active p → p.phase = .voting ∨ p.phase = .aborting) → withdraws asks s t.line.queue) ∧
        abortedOnLine asks s t ∧ attemptStays (fun f => asks f ∨ isProposalFrame f = true) s t ∧
        ∀ p, s.prop.activity = .active p → p.phase = .staging ∨ p.phase = .calling ∨ p.phase = .committing →
          let abort : Frame := { src := s.ctl.number, dest := none, body := .abort p.set .lockLost }
          (∀ f ∈ t.line.queue, isProposalFrame f = true → f = abort) ∧
          (s.line.queue.length < 12 ∨ (∃ f ∈ s.line.queue, asks f ∨ isProposalFrame f = true) → abort ∈ t.line.queue) ∧
          (abort ∈ t.line.queue → ∀ keep : Frame → Bool, (∀ g, keep g = true ↔ ¬ asks g ∧ isProposalFrame g = false) →
            t.line.queue = insertFrame abort (s.line.queue.filter keep)) ∧
          abortedOnLine (isProposalFrame · = true) s t)

/-- R90, R159, R106, R108, R110, R91: SELF_SOURCE at 500,000 microseconds, changing nothing when sent before (the
model's choice, log 6), makes the station LOCKED and leaves network time; the first LOCKED in JOINING, by SELF_SOURCE
or by a SYNC, makes it MEMBER, which starts the membership timers and offers the join announcement. -/
def Obligations.FirstLockMakesTheStationMember : Prop :=
  ∀ s : State,
    let locked := { s.time with lock := .locked, supervision := some 0, syncTimer := some 0, selfSource := none }
    let announcement : Frame := { src := s.ctl.number, dest := none, body := .presence .unlocked 0 0 true }
    let memb := { s.memb with interval := some 0, presence := some 0, announced := false, ownPresence := true }
    (∀ n, s.time.selfSource = some n → s.time.lock = .unlocked →
      (n < 500000 → exec .selfSource s = .next s) ∧
      (s.ctl.state = .member → 500000 ≤ n →
        exec .selfSource s = .next ((s.setTime locked).setNotes { s.notes with flags := s.notes.flags ||| 4 })) ∧
      (s.ctl.state = .joining → 500000 ≤ n → s.memb.ownPresence = false → s.line.queue.length < 12 →
        exec .selfSource s = .next
          { s with
            ctl := { s.ctl with state := .member }
            time := locked
            memb := memb
            line := { s.line with queue := insertFrame announcement s.line.queue }
            notes := { s.notes with flags := s.notes.flags ||| 4 } })) ∧
    ∀ (src : Station) (time sample : NetTime), s.ctl.state = .joining → inReception s → src ≠ s.ctl.number →
      s.time.lock = .acquiring → s.time.ownSync = false → s.time.sample = some sample →
      s.memb.ownPresence = false → s.line.queue.length < 12 →
      let o := sdiff (time + BitVec.ofNat 48 s.time.trim.val) sample
      (-20 ≤ o) → o ≤ 20 →
      ∃ t, exec (.sync src time) s = .next t ∧ t.ctl = { s.ctl with state := .member } ∧
        t.time = { locked with slew := if o = 0 then none else some { offset := o, remaining := o, progress := 0 } } ∧
        t.memb = { (heardFrom src s).memb with
          interval := some 0, presence := some 0, announced := false, ownPresence := true } ∧
        t.line = { (afterFrame s).line with queue := insertFrame announcement s.line.queue } ∧
        isPending .lock t = true ∧ raisesOnly [.lock, .member] s t ∧ t.part = s.part ∧ t.prop = s.prop ∧
        t.chans = s.chans ∧ t.capt = s.capt ∧ t.port = s.port ∧ t.clock = s.clock ∧ t.pending = s.pending

/-- R92, R93, R108, R115: at 100,000 microseconds, and changing nothing when sent before (the model's choice, log 6),
the sync timer restarts and a MEMBER, LOCKED station without an outstanding SYNC offers one; the presence timer
restarts and a station without an outstanding PRESENCE offers one, with its join flag while the announcement is not
sent; a full queue refuses either. -/
def Obligations.SyncAndPresenceTimers : Prop :=
  ∀ (s : State) (n : Nat),
    (s.time.syncTimer = some n →
      let u := s.setTime { s.time with syncTimer := some 0 }
      let sync : Frame := { src := s.ctl.number, dest := none, body := .sync 0 }
      let sends := s.ctl.state = .member ∧ s.time.lock = .locked ∧ s.time.ownSync = false
      (n < 100000 → exec .syncTimerExpiry s = .next s) ∧
      (100000 ≤ n → ¬ sends → exec .syncTimerExpiry s = .next u) ∧
      (100000 ≤ n → sends → exec .syncTimerExpiry s = .next
        (if s.line.queue.length < 12 then
           (u.setTime { u.time with ownSync := true }).setLine { s.line with queue := insertFrame sync s.line.queue }
         else u))) ∧
    (s.memb.presence = some n →
      let u := s.setMemb { s.memb with presence := some 0 }
      let frame : Frame := { src := s.ctl.number, dest := none, body := .presence .unlocked 0 0 (!s.memb.announced) }
      (n < 100000 → exec .presenceCheck s = .next s) ∧
      (100000 ≤ n → s.memb.ownPresence = true → exec .presenceCheck s = .next u) ∧
      (100000 ≤ n → s.memb.ownPresence = false → exec .presenceCheck s = .next
        (if s.line.queue.length < 12 then
           (u.setMemb { u.memb with ownPresence := true }).setLine
             { s.line with queue := insertFrame frame s.line.queue }
         else u)))

/-- R79, R81, R84: a microsecond without a piece, with a slew in progress or with none, advances network time by one; a piece
of a slew forward advances it by two, and a piece backward holds it. Every microsecond timer counts that same advance. The
piece points are R84's; the last piece ends the slew. That each timer but the supervision timer is held at its limit (log 9),
that the microsecond is an act of its own (log 36) and that a piece sent when none is due changes nothing (log 6) are the
model's choices. -/
def Obligations.SlewPiecesMoveTime : Prop :=
  ∀ s : State,
    let sooner (limit adv : Nat) (t : Option Nat) : Option Nat := t.map fun n => min limit (n + adv)
    let after (adv : Nat) (slew : Option Slew) : State :=
      { s with
        clock := { s.clock with microDue := false }
        time :=
          { s.time with
            now := s.time.now + BitVec.ofNat 48 adv
            slew := slew
            supervision := s.time.supervision.map (· + adv)
            syncTimer := sooner 100000 adv s.time.syncTimer
            selfSource := sooner 500000 adv s.time.selfSource }
        memb := { s.memb with interval := sooner 100000 adv s.memb.interval, presence := sooner 100000 adv s.memb.presence }
        line := { s.line with mute := sooner 100000 adv s.line.mute } }
    (s.time.slew = none → plainMicro s = after 1 none ∧ exec .slewPiece s = .next s) ∧
    ∀ sl, s.time.slew = some sl → SlewSound sl →
      let k := sl.offset.natAbs - sl.remaining.natAbs + 1
      let last := sl.remaining.natAbs = 1
      let left := { sl with remaining := sl.remaining - sl.offset.sign, progress := sl.progress + 1 }
      plainMicro s = after 1 (some { sl with progress := sl.progress + 1 }) ∧
      (s.clock.microDue = true → k * 100000 / sl.offset.natAbs ≤ sl.progress + 1 →
        (0 < sl.offset → exec .slewPiece s = .next (after 2 (if last then none else some left))) ∧
        (sl.offset < 0 → exec .slewPiece s = .next (after 0 (if last then none else some left)))) ∧
      (s.clock.microDue = false ∨ sl.progress + 1 < k * 100000 / sl.offset.natAbs → exec .slewPiece s = .next s)

/-- R106: at 100,000 microseconds the membership interval ends and every PRESENT entry is examined: a heard one is
cleared, an unheard one counts, the third in a row makes it SILENT with its reported fields absent and raises MEMBER. Sent
before, the event changes nothing: the model's choice (log 6). -/
def Obligations.MembershipIntervalExaminesTheEntries : Prop :=
  ∀ (s : State) (n : Nat), s.memb.interval = some n →
    (n < 100000 → exec .membershipIntervalEnd s = .next s) ∧
    (100000 ≤ n →
      let silent (e : MemberEntry) : Prop := e.state = .present ∧ e.heard = false ∧ 2 ≤ e.missed
      ∃ t, exec .membershipIntervalEnd s = .next t ∧
        t = { s with memb := { s.memb with entries := t.memb.entries, interval := some 0 }, notes := t.notes } ∧
        (∀ st : Station,
          (s.memb.entries[st].heard = true ∧ s.memb.entries[st].state ≠ .self →
            t.memb.entries[st] = { s.memb.entries[st] with heard := false }) ∧
          (s.memb.entries[st].heard = false →
            (silent s.memb.entries[st] → t.memb.entries[st] =
              { s.memb.entries[st] with state := .silent, missed := 3, lock := none, records := none, slots := none }) ∧
            (s.memb.entries[st].state = .present → s.memb.entries[st].missed < 2 →
              t.memb.entries[st] = { s.memb.entries[st] with missed := s.memb.entries[st].missed + 1 }) ∧
            (s.memb.entries[st].state ≠ .present → t.memb.entries[st] = s.memb.entries[st]))) ∧
        ((∃ st : Station, silent s.memb.entries[st]) → t.notes = { s.notes with flags := s.notes.flags ||| 256 }) ∧
        ((∀ st : Station, ¬ silent s.memb.entries[st]) → t.notes = s.notes))

/-! ### Record timers, epochs, swaps (Chapters 1 and 2) -/

/-- R31, R36, R37: the stale timeout frees a STAGING record with SET_DROPPED at 65,536 bit times; the decision wait makes
a VOTED one IN_DOUBT at 2,048, with its first INQUIRE; the inquiry timer makes the second and third attempt, and stops
after it. An event sent before its time changes nothing: the model's choice (log 6). -/
def Obligations.RecordTimersRunOut : Prop :=
  ∀ (s : State) (i : Fin 4) (r : SetRecord) (start : Instant), s.part.table[i] = some r → r.self = false →
    r.timer = some start →
    let after (bits : Nat) : Prop := start + bits * bitTime s.ctl.rate ≤ s.clock.osc
    let frame : Frame := { src := s.ctl.number, dest := some r.set.proposer, body := .inquire r.set }
    let asked (n : Nat) (u : State) : State :=
      let v := u.setPart { u.part with table := u.part.table.set i.val (some
        { r with state := .inDoubt, inquiries := n, timer := if n < 3 then some s.clock.osc else none }) }
      if s.line.queue.any (isInquireFor r.set) = false ∧ s.line.queue.length < 12 then
        v.setLine { s.line with queue := insertFrame frame s.line.queue }
      else v
    (r.state = .staging →
      (¬ after 65536 → exec (.staleTimeout i) s = .next s) ∧
      (after 65536 → s.line.queue.any (isInquireFor r.set) = false →
        exec (.staleTimeout i) s = .next ((s.setPart { s.part with table := s.part.table.set i.val none }).setNotes
          { s.notes with flags := s.notes.flags ||| 16 }))) ∧
    (r.state = .voted → r.inquiries = 0 →
      (¬ after 2048 → exec (.decisionTimeout i) s = .next s) ∧
      (after 2048 → exec (.decisionTimeout i) s = .next (asked 1 s))) ∧
    (r.state = .inDoubt →
      (¬ after 2048 ∨ 3 ≤ r.inquiries → exec (.inquiryTimer i) s = .next s) ∧
      (after 2048 → r.inquiries < 3 → exec (.inquiryTimer i) s = .next (asked (r.inquiries + 1) s)))

/-- R42, R10, R11, R13, R14: an ARMED record at its epoch: every item meets its channel together, the record goes,
SET_APPLIED is raised; an item at its boundary, or past it, is installed with its claim released, and one whose boundary
lies ahead waits with its claim. R16: a waiting swap completes at its boundary. An event sent before its time changes
nothing: the model's choice (log 6). -/
def Obligations.ArmedRecordsAndSwapsAreApplied : Prop :=
  ∀ s : State, ClaimsSound s →
    (∀ (i : Fin 4) (r : SetRecord) (e : NetTime), s.part.table[i] = some r → r.state = .armed → r.epoch = some e →
      (sdiff s.time.now e < 0 → exec (.epochApply i) s = .next s) ∧
      (0 ≤ sdiff s.time.now e → ∃ t, exec (.epochApply i) s = .next t ∧
        t = { s with
              chans := t.chans
              part := { s.part with table := s.part.table.set i.val none, claims := t.part.claims }
              notes := { s.notes with flags := s.notes.flags ||| 32 } } ∧
        ∀ c : Fin 16,
          match r.items.find? (onChannel c) with
          | none => t.chans[c] = s.chans[c] ∧ t.part.claims[c] = s.part.claims[c]
          | some it =>
            let b := if it.load = .atEpoch then e else boundaryOf s.chans[c].active s.chans[c].anchor e
            (0 ≤ sdiff s.time.now b ∨ b = e →
              t.chans[c] = { s.chans[c] with active := it.program, anchor := b } ∧ t.part.claims[c] = none) ∧
            (sdiff s.time.now b < 0 ∧ b ≠ e →
              t.chans[c] = { s.chans[c] with pending := some { program := it.program, boundary := b, set := r.set } } ∧
                t.part.claims[c] = some r.set))) ∧
    ∀ c : Fin 16,
      (∀ w, s.chans[c].pending = some w →
        (sdiff s.time.now w.boundary < 0 → exec (.swapComplete c) s = .next s) ∧
        (0 ≤ sdiff s.time.now w.boundary → exec (.swapComplete c) s = .next
          { s with
            chans := s.chans.set c.val
              { s.chans[c] with active := w.program, anchor := w.boundary, pending := none }
            part := { s.part with claims := s.part.claims.set c.val none }
            notes := { s.notes with flags := s.notes.flags ||| 32 } })) ∧
      (s.chans[c].pending = none → exec (.swapComplete c) s = .next s)

/-- R43, R48: a VOTED or IN_DOUBT record of another station's set expires at its epoch, by EPOCH_EXPIRY, with an EXPIRED entry, newest
in the list; a VOTED self record goes at its epoch, by SELF_RECORD_EPOCH, without an entry. Both commands complete in every such state,
raise SET_DROPPED, release the record's claims alone, and touch no output, no draft and no open proposal, but that its frame that
waits for room may take an INQUIRE's (R62). A queued INQUIRE for the record is withdrawn, and no other frame (R37); one on the line is
aborted there (R116), a last stop bit included: the model's choice (log 34). An event sent before the epoch changes nothing: the
model's choice (log 6). -/
def Obligations.UndecidedRecordsExpire : Prop :=
  ∀ (s : State) (i : Fin 4) (r : SetRecord) (e : NetTime), s.part.table[i] = some r →
    r.state = .voted ∨ r.state = .inDoubt → r.epoch = some e →
    let c := if r.self then Instr.selfRecordEpoch i else .epochExpiry i
    (sdiff s.time.now e < 0 → exec c s = .next s) ∧
    (0 ≤ sdiff s.time.now e → ∃ t, exec c s = .next t ∧
      t.part.table = s.part.table.set i.val none ∧ isPending .setDropped t = true ∧
      (∀ c : Fin 16, t.part.claims[c] =
        if r.items.any (onChannel c) = true ∧ s.part.claims[c] = some r.set then none else s.part.claims[c]) ∧
      (r.self = true → t.part.closed = s.part.closed) ∧
      (r.self = false →
        t.part.closed = closedWith { set := r.set, kind := .expired, missedSent := false } s.part.closed) ∧
      t.chans = s.chans ∧ t.time = s.time ∧ t.memb = s.memb ∧ t.clock = s.clock ∧ proposerStays s t ∧
      raisesOnly [.setDropped] s t ∧ bystanders s t ∧ lineBystanders s t ∧
      abortedOnLine (isInquireFor r.set · = true) s t ∧ attemptStays (isInquireFor r.set · = true) s t ∧
      (s.line.queue.countP (isInquireFor r.set) ≤ 1 →
        (∀ out, outstandingFrame s = some out → isProposalFrame out.frame = true) →
        withdraws (isInquireFor r.set · = true) s t.line.queue))

/-! ### Captures (Chapter 9) -/

/-- R144 to R149: a sample of the inputs takes every input that shows an edge. Each selected edge makes one record with the
sample's network time and lock state, queued behind the others, or is dropped and counted when 32 are held; an edge not selected,
or no edge, makes no record; the level seen becomes the reference. The order of one sample's records is fixed by no rule (R147) and
free (log 39). The first record kept carries the pending-lost count and the next ones 0. An input yields at most one edge per
microsecond. Model's choices (logs 21 and 35): the command is a pin's level with the sample it brings, which may show no edge; a
microsecond, of two half microseconds of the oscillator's count, has one sample, and a level after it waits on its pin; in CONFIG
the pin alone changes. -/
def Obligations.CaptureEdgesAreStampedOrCounted : Prop :=
  ∀ (s : State) (i : Fin 8) (level : Level),
    let pins := s.capt.pins.set i.val level
    (s.ctl.state = .config → exec (.captureEdge i level) s = .next (s.setCapt { s.capt with pins := pins })) ∧
    (s.ctl.state ≠ .config →
      let shown (j : Fin 8) : Prop := (∃ before, s.capt.refs[j] = some before ∧ before ≠ pins[j]) ∧
        s.capt.sampled[j] ≠ some (s.clock.osc / 2) ∧ sampleStands s
      let selected (j : Fin 8) : Prop := s.capt.selections[j] = .both ∨
        s.capt.selections[j] = .rising ∧ pins[j] = .high ∨ s.capt.selections[j] = .falling ∧ pins[j] = .low
      let record (lostBefore : Nat) (j : Fin 8) : CaptureRecord :=
        { input := j, edge := if pins[j] = .high then .rising else .falling, time := s.time.now, quality := s.time.lock
          lostBefore := lostBefore }
      ∃ (t : State) (seen : List (Fin 8)), exec (.captureEdge i level) s = .next t ∧
        seen.Nodup ∧ (∀ j, j ∈ seen ↔ shown j ∧ selected j) ∧
        (let kept := seen.take (32 - s.capt.queue.length)
         let lost := seen.length - kept.length
         let carried := if kept = [] then s.capt.pendingLost else 0
         t = { s with
           clock := { s.clock with choices := t.clock.choices }
           capt :=
             { s.capt with
               pins := pins
               refs := t.capt.refs
               sampled := t.capt.sampled
               lastSample := t.capt.lastSample
               queue := s.capt.queue ++
                 (kept.take 1).map (record s.capt.pendingLost) ++ (kept.drop 1).map (record 0)
               pendingLost := if lost = 0 then carried else min (carried + lost) 255
               totalLost := if lost = 0 then s.capt.totalLost else min (s.capt.totalLost + lost) 65535 }
           notes := if lost = 0 then s.notes else { s.notes with flags := s.notes.flags ||| 512 } }) ∧
        (∀ j : Fin 8,
          (shown j → t.capt.refs[j] = some pins[j] ∧ t.capt.sampled[j] = some (s.clock.osc / 2) ∧
            t.capt.lastSample = some (presentSample s)) ∧
          (¬ shown j → t.capt.refs[j] = s.capt.refs[j] ∧ t.capt.sampled[j] = s.capt.sampled[j])) ∧
        ((∀ j, ¬ shown j) → t.capt.lastSample = s.capt.lastSample) ∧
        ((∀ j k, shown j → shown k → j = k) → t.clock = s.clock))

/-! ### Output levels (Chapter 1) -/

/-- R80: the signed difference of two network times. R3: HOLD(x) as the T416 makes it. R5 to R8: the level of a valid program
(R4) at a network time, and with it every pin, LOW while a hard reset lasts (R155). R12: the
boundary over an old program is the end of its running pulse, or the first period boundary of its running train at or after
the epoch, or the epoch. -/
def Obligations.LevelsAndBoundaries : Prop :=
  (∀ a b : NetTime,
    let diff : Int := ((a.toNat : Int) - b.toNat) % 2 ^ 48
    sdiff a b = if diff < 2 ^ 47 then diff else diff - 2 ^ 48) ∧
  (∀ x : Level, holdProgram x = { mode := .hold, start := 0, period := 0, width := 0, count := 0, active := x, rest := .low }) ∧
  (∀ (c : Fin 16) (it : Item), onChannel c it = true ↔ it.channel.toNat = c.val) ∧
  ∀ (p : Program) (anchor now : NetTime), validProgram p →
    let start := anchor + p.start.setWidth 48
    let d := sdiff now start
    let width : Int := p.width.toNat
    let period : Int := p.period.toNat
    let running := 0 ≤ d ∧ (p.count = 0 ∨ d < p.count.toNat * period)
    (p.mode = .hold → levelAt p anchor now = p.active ∧ boundaryOf p anchor now = now) ∧
    (p.mode = .pulse →
      levelAt p anchor now = (if 0 ≤ d ∧ d < width then p.active else p.rest) ∧
      boundaryOf p anchor now = if 0 ≤ d ∧ d < width then start + p.width.setWidth 48 else now) ∧
    (p.mode = .train →
      levelAt p anchor now = (if running ∧ d % period < width then p.active else p.rest) ∧
      (¬ running → boundaryOf p anchor now = now) ∧
      (running → ∃ k : Nat, d ≤ k * period ∧ k * period < d + period ∧
        boundaryOf p anchor now = start + BitVec.ofNat 48 (k * p.period.toNat))) ∧
    ∀ (s : State) (c : Fin 16), s.chans[c].active = p → s.chans[c].anchor = anchor → s.time.now = now →
      pinLevel s c = if s.ctl.resetting then .low else levelAt p anchor now

/-! ### Chapter 8: the characters of frames and of transactions -/

/-- Chapter 8's codes, layouts, forms and commands, as its tables give them. R132 to R137, R125, R128, R139, R167: the characters of every well-formed frame are received as that frame's command,
or as an own-number frame at the station whose number they carry; characters with their CRC behind them leave the CRC at
0; and the bits of a command and its arguments carry that command, a trailing partial character being discarded. -/
def Obligations.FramesAndCommandsReadBack : Prop :=
  codesOfChapter8 ∧ layoutsOfChapter8 ∧ formOfChapter8 ∧ commandsOfChapter8 ∧
  (∀ (own : Station) (f : Frame), f.formed = true →
    classifyFrame own ((encodeFrame f).map fun b => { value := b, stop := true }) =
      if f.src = own then .ownNumberFrame f.body.kind else f.command) ∧
  (∀ bs : List Byte, crcOf (bs ++ beBytes 2 (crcOf bs).toNat) = 0) ∧
  ∀ (code : Byte) (args : List Byte) (rest : List Bool), rest.length < 8 →
    transactionOf ((code :: args).flatMap byteBits ++ rest) = commandOf code args ∧
      commandBytes (commandOf code args) = some (code :: args)

/-! ### Invariants -/

/-- The state at reset is sound in every respect that the next statements show a step to keep. -/
def Obligations.ResetStateIsSound : Prop :=
  QueueSound State.reset ∧ OwnersSound State.reset ∧ ClaimsSound State.reset ∧ StoreSound State.reset ∧
    ClosedSound State.reset ∧ LogSound State.reset ∧ MembersSound State.reset ∧ LineSound State.reset ∧
    StationSound State.reset ∧ TimeSound State.reset ∧ CaptureSound State.reset ∧ NoticesSound State.reset

/-- R27, R33: every step keeps each channel claimed by exactly the voted record or the pending swap that holds it. -/
def Obligations.StepsKeepClaimsSound : Prop :=
  ∀ s t : State, ClaimsSound s → step s = .next t → ClaimsSound t

/-- R62, R92, R100, R115, R124: every step keeps the transmit queue in order and within its room, with one SYNC, one
PRESENCE and one frame of the proposal exactly when their owners say so, and the attempt a frame of the queue or a REPLY. R115: a
frame taken into a queue in order stands behind every frame whose arbitration value is not higher, and so behind those accepted
before it with its own value, and before every frame with a higher one; the frames that were there keep their order. -/
def Obligations.StepsKeepTheQueueAndItsOwnersSound : Prop :=
  (∀ (f : Frame) (q : List Frame), q.Pairwise (fun x y => x.arbitration ≤ y.arbitration) →
    insertFrame f q =
      (q.filter fun x => x.arbitration ≤ f.arbitration) ++ f :: q.filter fun x => f.arbitration < x.arbitration) ∧
  (∀ f : Frame,
    (isSync f = true ↔ f.body.kind = .sync) ∧ (∀ set, isInquireFor set f = true ↔ f.body = .inquire set) ∧
    (isProposalFrame f = true ↔
      f.body.kind = .stage ∨ f.body.kind = .call ∨ f.body.kind = .commit ∨ f.body.kind = .abort)) ∧
  ∀ s t : State, QueueSound s ∧ OwnersSound s → step s = .next t → QueueSound t ∧ OwnersSound t

/-- R24, R25, R26, R30, R54: every step keeps the participant table, the staging store, the draft and the recently-closed
list within their rules. -/
def Obligations.StepsKeepTheStoreSound : Prop :=
  ∀ s t : State, StoreSound s ∧ ClosedSound s → step s = .next t → StoreSound t ∧ ClosedSound t

/-- Every step keeps the decision log (R59, R73), the member table (R100, R101, R106), the line's counts (R122, R129),
what each station state fixes (R114, R158, R159, R162), the capture queue (R145, R148, R149) and the stored flags (R174)
sound, each by itself, and network time and lock (R78, R84, R88, R90, R97) sound while a SYNC is queued only with its owner's
word (R92, R93). -/
def Obligations.StepsKeepTheUnitsSound : Prop :=
  ∀ s t : State, step s = .next t →
    (LogSound s → LogSound t) ∧ (MembersSound s → MembersSound t) ∧ (LineSound s → LineSound t) ∧
      (StationSound s → StationSound t) ∧ (OwnersSound s → TimeSound s → TimeSound t) ∧
      (CaptureSound s → CaptureSound t) ∧ (NoticesSound s → NoticesSound t)
end

