-- ==== Sys2Proof/Laws/State.lean ====
section
/-! SUPPORT. What each block update leaves in each block of the state: one lemma per field per update. -/

namespace Sys2Proof.Machine

/-! ### State.setClock -/

@[simp] theorem State.setClock_clock (s : State) (x : Clock) : (s.setClock x).clock = x := rfl
@[simp] theorem State.setClock_ctl (s : State) (x : Clock) : (s.setClock x).ctl = s.ctl := rfl
@[simp] theorem State.setClock_chans (s : State) (x : Clock) : (s.setClock x).chans = s.chans := rfl
@[simp] theorem State.setClock_part (s : State) (x : Clock) : (s.setClock x).part = s.part := rfl
@[simp] theorem State.setClock_prop (s : State) (x : Clock) : (s.setClock x).prop = s.prop := rfl
@[simp] theorem State.setClock_time (s : State) (x : Clock) : (s.setClock x).time = s.time := rfl
@[simp] theorem State.setClock_memb (s : State) (x : Clock) : (s.setClock x).memb = s.memb := rfl
@[simp] theorem State.setClock_line (s : State) (x : Clock) : (s.setClock x).line = s.line := rfl
@[simp] theorem State.setClock_capt (s : State) (x : Clock) : (s.setClock x).capt = s.capt := rfl
@[simp] theorem State.setClock_port (s : State) (x : Clock) : (s.setClock x).port = s.port := rfl
@[simp] theorem State.setClock_notes (s : State) (x : Clock) : (s.setClock x).notes = s.notes := rfl
@[simp] theorem State.setClock_pending (s : State) (x : Clock) : (s.setClock x).pending = s.pending := rfl
@[simp] theorem State.setClock_setClock (s : State) (x y : Clock) : (s.setClock x).setClock y = s.setClock y := rfl
@[simp] theorem State.setClock_self (s : State) : s.setClock s.clock = s := rfl

/-! ### State.setCtl -/

@[simp] theorem State.setCtl_clock (s : State) (x : StationController) : (s.setCtl x).clock = s.clock := rfl
@[simp] theorem State.setCtl_ctl (s : State) (x : StationController) : (s.setCtl x).ctl = x := rfl
@[simp] theorem State.setCtl_chans (s : State) (x : StationController) : (s.setCtl x).chans = s.chans := rfl
@[simp] theorem State.setCtl_part (s : State) (x : StationController) : (s.setCtl x).part = s.part := rfl
@[simp] theorem State.setCtl_prop (s : State) (x : StationController) : (s.setCtl x).prop = s.prop := rfl
@[simp] theorem State.setCtl_time (s : State) (x : StationController) : (s.setCtl x).time = s.time := rfl
@[simp] theorem State.setCtl_memb (s : State) (x : StationController) : (s.setCtl x).memb = s.memb := rfl
@[simp] theorem State.setCtl_line (s : State) (x : StationController) : (s.setCtl x).line = s.line := rfl
@[simp] theorem State.setCtl_capt (s : State) (x : StationController) : (s.setCtl x).capt = s.capt := rfl
@[simp] theorem State.setCtl_port (s : State) (x : StationController) : (s.setCtl x).port = s.port := rfl
@[simp] theorem State.setCtl_notes (s : State) (x : StationController) : (s.setCtl x).notes = s.notes := rfl
@[simp] theorem State.setCtl_pending (s : State) (x : StationController) : (s.setCtl x).pending = s.pending := rfl
@[simp] theorem State.setCtl_setCtl (s : State) (x y : StationController) : (s.setCtl x).setCtl y = s.setCtl y := rfl
@[simp] theorem State.setCtl_self (s : State) : s.setCtl s.ctl = s := rfl

/-! ### State.setChans -/

@[simp] theorem State.setChans_clock (s : State) (x : Vector ChannelRecord 16) : (s.setChans x).clock = s.clock := rfl
@[simp] theorem State.setChans_ctl (s : State) (x : Vector ChannelRecord 16) : (s.setChans x).ctl = s.ctl := rfl
@[simp] theorem State.setChans_chans (s : State) (x : Vector ChannelRecord 16) : (s.setChans x).chans = x := rfl
@[simp] theorem State.setChans_part (s : State) (x : Vector ChannelRecord 16) : (s.setChans x).part = s.part := rfl
@[simp] theorem State.setChans_prop (s : State) (x : Vector ChannelRecord 16) : (s.setChans x).prop = s.prop := rfl
@[simp] theorem State.setChans_time (s : State) (x : Vector ChannelRecord 16) : (s.setChans x).time = s.time := rfl
@[simp] theorem State.setChans_memb (s : State) (x : Vector ChannelRecord 16) : (s.setChans x).memb = s.memb := rfl
@[simp] theorem State.setChans_line (s : State) (x : Vector ChannelRecord 16) : (s.setChans x).line = s.line := rfl
@[simp] theorem State.setChans_capt (s : State) (x : Vector ChannelRecord 16) : (s.setChans x).capt = s.capt := rfl
@[simp] theorem State.setChans_port (s : State) (x : Vector ChannelRecord 16) : (s.setChans x).port = s.port := rfl
@[simp] theorem State.setChans_notes (s : State) (x : Vector ChannelRecord 16) : (s.setChans x).notes = s.notes := rfl
@[simp] theorem State.setChans_pending (s : State) (x : Vector ChannelRecord 16) : (s.setChans x).pending = s.pending := rfl
@[simp] theorem State.setChans_setChans (s : State) (x y : Vector ChannelRecord 16) : (s.setChans x).setChans y = s.setChans y := rfl
@[simp] theorem State.setChans_self (s : State) : s.setChans s.chans = s := rfl

/-! ### State.setPart -/

@[simp] theorem State.setPart_clock (s : State) (x : Participant) : (s.setPart x).clock = s.clock := rfl
@[simp] theorem State.setPart_ctl (s : State) (x : Participant) : (s.setPart x).ctl = s.ctl := rfl
@[simp] theorem State.setPart_chans (s : State) (x : Participant) : (s.setPart x).chans = s.chans := rfl
@[simp] theorem State.setPart_part (s : State) (x : Participant) : (s.setPart x).part = x := rfl
@[simp] theorem State.setPart_prop (s : State) (x : Participant) : (s.setPart x).prop = s.prop := rfl
@[simp] theorem State.setPart_time (s : State) (x : Participant) : (s.setPart x).time = s.time := rfl
@[simp] theorem State.setPart_memb (s : State) (x : Participant) : (s.setPart x).memb = s.memb := rfl
@[simp] theorem State.setPart_line (s : State) (x : Participant) : (s.setPart x).line = s.line := rfl
@[simp] theorem State.setPart_capt (s : State) (x : Participant) : (s.setPart x).capt = s.capt := rfl
@[simp] theorem State.setPart_port (s : State) (x : Participant) : (s.setPart x).port = s.port := rfl
@[simp] theorem State.setPart_notes (s : State) (x : Participant) : (s.setPart x).notes = s.notes := rfl
@[simp] theorem State.setPart_pending (s : State) (x : Participant) : (s.setPart x).pending = s.pending := rfl
@[simp] theorem State.setPart_setPart (s : State) (x y : Participant) : (s.setPart x).setPart y = s.setPart y := rfl
@[simp] theorem State.setPart_self (s : State) : s.setPart s.part = s := rfl

/-! ### State.setProp -/

@[simp] theorem State.setProp_clock (s : State) (x : Proposer) : (s.setProp x).clock = s.clock := rfl
@[simp] theorem State.setProp_ctl (s : State) (x : Proposer) : (s.setProp x).ctl = s.ctl := rfl
@[simp] theorem State.setProp_chans (s : State) (x : Proposer) : (s.setProp x).chans = s.chans := rfl
@[simp] theorem State.setProp_part (s : State) (x : Proposer) : (s.setProp x).part = s.part := rfl
@[simp] theorem State.setProp_prop (s : State) (x : Proposer) : (s.setProp x).prop = x := rfl
@[simp] theorem State.setProp_time (s : State) (x : Proposer) : (s.setProp x).time = s.time := rfl
@[simp] theorem State.setProp_memb (s : State) (x : Proposer) : (s.setProp x).memb = s.memb := rfl
@[simp] theorem State.setProp_line (s : State) (x : Proposer) : (s.setProp x).line = s.line := rfl
@[simp] theorem State.setProp_capt (s : State) (x : Proposer) : (s.setProp x).capt = s.capt := rfl
@[simp] theorem State.setProp_port (s : State) (x : Proposer) : (s.setProp x).port = s.port := rfl
@[simp] theorem State.setProp_notes (s : State) (x : Proposer) : (s.setProp x).notes = s.notes := rfl
@[simp] theorem State.setProp_pending (s : State) (x : Proposer) : (s.setProp x).pending = s.pending := rfl
@[simp] theorem State.setProp_setProp (s : State) (x y : Proposer) : (s.setProp x).setProp y = s.setProp y := rfl
@[simp] theorem State.setProp_self (s : State) : s.setProp s.prop = s := rfl

/-! ### State.setTime -/

@[simp] theorem State.setTime_clock (s : State) (x : TimeUnit) : (s.setTime x).clock = s.clock := rfl
@[simp] theorem State.setTime_ctl (s : State) (x : TimeUnit) : (s.setTime x).ctl = s.ctl := rfl
@[simp] theorem State.setTime_chans (s : State) (x : TimeUnit) : (s.setTime x).chans = s.chans := rfl
@[simp] theorem State.setTime_part (s : State) (x : TimeUnit) : (s.setTime x).part = s.part := rfl
@[simp] theorem State.setTime_prop (s : State) (x : TimeUnit) : (s.setTime x).prop = s.prop := rfl
@[simp] theorem State.setTime_time (s : State) (x : TimeUnit) : (s.setTime x).time = x := rfl
@[simp] theorem State.setTime_memb (s : State) (x : TimeUnit) : (s.setTime x).memb = s.memb := rfl
@[simp] theorem State.setTime_line (s : State) (x : TimeUnit) : (s.setTime x).line = s.line := rfl
@[simp] theorem State.setTime_capt (s : State) (x : TimeUnit) : (s.setTime x).capt = s.capt := rfl
@[simp] theorem State.setTime_port (s : State) (x : TimeUnit) : (s.setTime x).port = s.port := rfl
@[simp] theorem State.setTime_notes (s : State) (x : TimeUnit) : (s.setTime x).notes = s.notes := rfl
@[simp] theorem State.setTime_pending (s : State) (x : TimeUnit) : (s.setTime x).pending = s.pending := rfl
@[simp] theorem State.setTime_setTime (s : State) (x y : TimeUnit) : (s.setTime x).setTime y = s.setTime y := rfl
@[simp] theorem State.setTime_self (s : State) : s.setTime s.time = s := rfl

/-! ### State.setMemb -/

@[simp] theorem State.setMemb_clock (s : State) (x : Membership) : (s.setMemb x).clock = s.clock := rfl
@[simp] theorem State.setMemb_ctl (s : State) (x : Membership) : (s.setMemb x).ctl = s.ctl := rfl
@[simp] theorem State.setMemb_chans (s : State) (x : Membership) : (s.setMemb x).chans = s.chans := rfl
@[simp] theorem State.setMemb_part (s : State) (x : Membership) : (s.setMemb x).part = s.part := rfl
@[simp] theorem State.setMemb_prop (s : State) (x : Membership) : (s.setMemb x).prop = s.prop := rfl
@[simp] theorem State.setMemb_time (s : State) (x : Membership) : (s.setMemb x).time = s.time := rfl
@[simp] theorem State.setMemb_memb (s : State) (x : Membership) : (s.setMemb x).memb = x := rfl
@[simp] theorem State.setMemb_line (s : State) (x : Membership) : (s.setMemb x).line = s.line := rfl
@[simp] theorem State.setMemb_capt (s : State) (x : Membership) : (s.setMemb x).capt = s.capt := rfl
@[simp] theorem State.setMemb_port (s : State) (x : Membership) : (s.setMemb x).port = s.port := rfl
@[simp] theorem State.setMemb_notes (s : State) (x : Membership) : (s.setMemb x).notes = s.notes := rfl
@[simp] theorem State.setMemb_pending (s : State) (x : Membership) : (s.setMemb x).pending = s.pending := rfl
@[simp] theorem State.setMemb_setMemb (s : State) (x y : Membership) : (s.setMemb x).setMemb y = s.setMemb y := rfl
@[simp] theorem State.setMemb_self (s : State) : s.setMemb s.memb = s := rfl

/-! ### State.setLine -/

@[simp] theorem State.setLine_clock (s : State) (x : LineController) : (s.setLine x).clock = s.clock := rfl
@[simp] theorem State.setLine_ctl (s : State) (x : LineController) : (s.setLine x).ctl = s.ctl := rfl
@[simp] theorem State.setLine_chans (s : State) (x : LineController) : (s.setLine x).chans = s.chans := rfl
@[simp] theorem State.setLine_part (s : State) (x : LineController) : (s.setLine x).part = s.part := rfl
@[simp] theorem State.setLine_prop (s : State) (x : LineController) : (s.setLine x).prop = s.prop := rfl
@[simp] theorem State.setLine_time (s : State) (x : LineController) : (s.setLine x).time = s.time := rfl
@[simp] theorem State.setLine_memb (s : State) (x : LineController) : (s.setLine x).memb = s.memb := rfl
@[simp] theorem State.setLine_line (s : State) (x : LineController) : (s.setLine x).line = x := rfl
@[simp] theorem State.setLine_capt (s : State) (x : LineController) : (s.setLine x).capt = s.capt := rfl
@[simp] theorem State.setLine_port (s : State) (x : LineController) : (s.setLine x).port = s.port := rfl
@[simp] theorem State.setLine_notes (s : State) (x : LineController) : (s.setLine x).notes = s.notes := rfl
@[simp] theorem State.setLine_pending (s : State) (x : LineController) : (s.setLine x).pending = s.pending := rfl
@[simp] theorem State.setLine_setLine (s : State) (x y : LineController) : (s.setLine x).setLine y = s.setLine y := rfl
@[simp] theorem State.setLine_self (s : State) : s.setLine s.line = s := rfl

/-! ### State.setCapt -/

@[simp] theorem State.setCapt_clock (s : State) (x : Capture) : (s.setCapt x).clock = s.clock := rfl
@[simp] theorem State.setCapt_ctl (s : State) (x : Capture) : (s.setCapt x).ctl = s.ctl := rfl
@[simp] theorem State.setCapt_chans (s : State) (x : Capture) : (s.setCapt x).chans = s.chans := rfl
@[simp] theorem State.setCapt_part (s : State) (x : Capture) : (s.setCapt x).part = s.part := rfl
@[simp] theorem State.setCapt_prop (s : State) (x : Capture) : (s.setCapt x).prop = s.prop := rfl
@[simp] theorem State.setCapt_time (s : State) (x : Capture) : (s.setCapt x).time = s.time := rfl
@[simp] theorem State.setCapt_memb (s : State) (x : Capture) : (s.setCapt x).memb = s.memb := rfl
@[simp] theorem State.setCapt_line (s : State) (x : Capture) : (s.setCapt x).line = s.line := rfl
@[simp] theorem State.setCapt_capt (s : State) (x : Capture) : (s.setCapt x).capt = x := rfl
@[simp] theorem State.setCapt_port (s : State) (x : Capture) : (s.setCapt x).port = s.port := rfl
@[simp] theorem State.setCapt_notes (s : State) (x : Capture) : (s.setCapt x).notes = s.notes := rfl
@[simp] theorem State.setCapt_pending (s : State) (x : Capture) : (s.setCapt x).pending = s.pending := rfl
@[simp] theorem State.setCapt_setCapt (s : State) (x y : Capture) : (s.setCapt x).setCapt y = s.setCapt y := rfl
@[simp] theorem State.setCapt_self (s : State) : s.setCapt s.capt = s := rfl

/-! ### State.setPort -/

@[simp] theorem State.setPort_clock (s : State) (x : LocalPort) : (s.setPort x).clock = s.clock := rfl
@[simp] theorem State.setPort_ctl (s : State) (x : LocalPort) : (s.setPort x).ctl = s.ctl := rfl
@[simp] theorem State.setPort_chans (s : State) (x : LocalPort) : (s.setPort x).chans = s.chans := rfl
@[simp] theorem State.setPort_part (s : State) (x : LocalPort) : (s.setPort x).part = s.part := rfl
@[simp] theorem State.setPort_prop (s : State) (x : LocalPort) : (s.setPort x).prop = s.prop := rfl
@[simp] theorem State.setPort_time (s : State) (x : LocalPort) : (s.setPort x).time = s.time := rfl
@[simp] theorem State.setPort_memb (s : State) (x : LocalPort) : (s.setPort x).memb = s.memb := rfl
@[simp] theorem State.setPort_line (s : State) (x : LocalPort) : (s.setPort x).line = s.line := rfl
@[simp] theorem State.setPort_capt (s : State) (x : LocalPort) : (s.setPort x).capt = s.capt := rfl
@[simp] theorem State.setPort_port (s : State) (x : LocalPort) : (s.setPort x).port = x := rfl
@[simp] theorem State.setPort_notes (s : State) (x : LocalPort) : (s.setPort x).notes = s.notes := rfl
@[simp] theorem State.setPort_pending (s : State) (x : LocalPort) : (s.setPort x).pending = s.pending := rfl
@[simp] theorem State.setPort_setPort (s : State) (x y : LocalPort) : (s.setPort x).setPort y = s.setPort y := rfl
@[simp] theorem State.setPort_self (s : State) : s.setPort s.port = s := rfl

/-! ### State.setNotes -/

@[simp] theorem State.setNotes_clock (s : State) (x : NoticeUnit) : (s.setNotes x).clock = s.clock := rfl
@[simp] theorem State.setNotes_ctl (s : State) (x : NoticeUnit) : (s.setNotes x).ctl = s.ctl := rfl
@[simp] theorem State.setNotes_chans (s : State) (x : NoticeUnit) : (s.setNotes x).chans = s.chans := rfl
@[simp] theorem State.setNotes_part (s : State) (x : NoticeUnit) : (s.setNotes x).part = s.part := rfl
@[simp] theorem State.setNotes_prop (s : State) (x : NoticeUnit) : (s.setNotes x).prop = s.prop := rfl
@[simp] theorem State.setNotes_time (s : State) (x : NoticeUnit) : (s.setNotes x).time = s.time := rfl
@[simp] theorem State.setNotes_memb (s : State) (x : NoticeUnit) : (s.setNotes x).memb = s.memb := rfl
@[simp] theorem State.setNotes_line (s : State) (x : NoticeUnit) : (s.setNotes x).line = s.line := rfl
@[simp] theorem State.setNotes_capt (s : State) (x : NoticeUnit) : (s.setNotes x).capt = s.capt := rfl
@[simp] theorem State.setNotes_port (s : State) (x : NoticeUnit) : (s.setNotes x).port = s.port := rfl
@[simp] theorem State.setNotes_notes (s : State) (x : NoticeUnit) : (s.setNotes x).notes = x := rfl
@[simp] theorem State.setNotes_pending (s : State) (x : NoticeUnit) : (s.setNotes x).pending = s.pending := rfl
@[simp] theorem State.setNotes_setNotes (s : State) (x y : NoticeUnit) : (s.setNotes x).setNotes y = s.setNotes y := rfl
@[simp] theorem State.setNotes_self (s : State) : s.setNotes s.notes = s := rfl

/-! ### State.setPending -/

@[simp] theorem State.setPending_clock (s : State) (x : List Instr) : (s.setPending x).clock = s.clock := rfl
@[simp] theorem State.setPending_ctl (s : State) (x : List Instr) : (s.setPending x).ctl = s.ctl := rfl
@[simp] theorem State.setPending_chans (s : State) (x : List Instr) : (s.setPending x).chans = s.chans := rfl
@[simp] theorem State.setPending_part (s : State) (x : List Instr) : (s.setPending x).part = s.part := rfl
@[simp] theorem State.setPending_prop (s : State) (x : List Instr) : (s.setPending x).prop = s.prop := rfl
@[simp] theorem State.setPending_time (s : State) (x : List Instr) : (s.setPending x).time = s.time := rfl
@[simp] theorem State.setPending_memb (s : State) (x : List Instr) : (s.setPending x).memb = s.memb := rfl
@[simp] theorem State.setPending_line (s : State) (x : List Instr) : (s.setPending x).line = s.line := rfl
@[simp] theorem State.setPending_capt (s : State) (x : List Instr) : (s.setPending x).capt = s.capt := rfl
@[simp] theorem State.setPending_port (s : State) (x : List Instr) : (s.setPending x).port = s.port := rfl
@[simp] theorem State.setPending_notes (s : State) (x : List Instr) : (s.setPending x).notes = s.notes := rfl
@[simp] theorem State.setPending_pending (s : State) (x : List Instr) : (s.setPending x).pending = x := rfl
@[simp] theorem State.setPending_setPending (s : State) (x y : List Instr) : (s.setPending x).setPending y = s.setPending y := rfl
@[simp] theorem State.setPending_self (s : State) : s.setPending s.pending = s := rfl

end Sys2Proof.Machine
end

