-- ==== Sys2Proof/Laws/Ops.lean ====
section
/-! SUPPORT. What the shared operations of notices, queue and line can do: which blocks each leaves alone, and its effect. -/

namespace Sys2Proof.Machine

/-! ### Notices and counters -/

/-- A raised notice changes the Notice Unit alone. -/
theorem raise_frame (n : Notice) (s : State) : raise n s = s.setNotes (raise n s).notes := rfl

/-- A raised notice changes the Notice Unit alone. -/
theorem raiseIf_frame (b : Bool) (n : Notice) (s : State) : raiseIf b n s = s.setNotes (raiseIf b n s).notes := by
  cases b <;> rfl

/-- Clearing a notice changes the Notice Unit alone. -/
theorem clearNotice_frame (n : Notice) (s : State) : clearNotice n s = s.setNotes (clearNotice n s).notes := rfl

@[simp] theorem raise_enable (n : Notice) (s : State) : (raise n s).notes.enable = s.notes.enable := rfl
@[simp] theorem raise_clock (n : Notice) (s : State) : (raise n s).clock = s.clock := rfl
@[simp] theorem raise_ctl (n : Notice) (s : State) : (raise n s).ctl = s.ctl := rfl
@[simp] theorem raise_chans (n : Notice) (s : State) : (raise n s).chans = s.chans := rfl
@[simp] theorem raise_part (n : Notice) (s : State) : (raise n s).part = s.part := rfl
@[simp] theorem raise_prop (n : Notice) (s : State) : (raise n s).prop = s.prop := rfl
@[simp] theorem raise_time (n : Notice) (s : State) : (raise n s).time = s.time := rfl
@[simp] theorem raise_memb (n : Notice) (s : State) : (raise n s).memb = s.memb := rfl
@[simp] theorem raise_line (n : Notice) (s : State) : (raise n s).line = s.line := rfl
@[simp] theorem raise_capt (n : Notice) (s : State) : (raise n s).capt = s.capt := rfl
@[simp] theorem raise_port (n : Notice) (s : State) : (raise n s).port = s.port := rfl
@[simp] theorem raise_pending (n : Notice) (s : State) : (raise n s).pending = s.pending := rfl

/-- A counter event changes the Line Controller alone. -/
theorem withCounters_frame (f : Counters → Counters) (s : State) :
    withCounters f s = s.setLine { s.line with counters := f s.line.counters } := rfl

/-- A counter never passes 65,535 (R129). -/
theorem countUp_le (n : Nat) : countUp n ≤ Config.counterLimit := Nat.min_le_right _ _

/-- Below its limit a counter counts by one (R129). -/
theorem countUp_below {n : Nat} (h : n < Config.counterLimit) : countUp n = n + 1 := Nat.min_eq_left h

/-- At its limit a counter stays (R129). -/
theorem countUp_at : countUp Config.counterLimit = Config.counterLimit := by decide

/-! ### The transmit queue (R115, R116) -/

/-- Insertion adds the frame and keeps every other. -/
theorem mem_insertFrame {f g : Frame} {q : List Frame} : g ∈ insertFrame f q ↔ g = f ∨ g ∈ q := by
  induction q with
  | nil => simp [insertFrame]
  | cons x rest ih =>
    unfold insertFrame
    split
    · simp only [List.mem_cons, ih]; tauto
    · simp only [List.mem_cons]

/-- Insertion makes the queue one longer. -/
@[simp] theorem length_insertFrame (f : Frame) (q : List Frame) : (insertFrame f q).length = q.length + 1 := by
  induction q with
  | nil => rfl
  | cons x rest ih => unfold insertFrame; split <;> simp [ih]

/-- Insertion keeps the order of arbitration values (R115). -/
theorem insertFrame_ordered {f : Frame} {q : List Frame}
    (h : q.Pairwise (fun a b => a.arbitration ≤ b.arbitration)) :
    (insertFrame f q).Pairwise (fun a b => a.arbitration ≤ b.arbitration) := by
  induction q with
  | nil => simp [insertFrame]
  | cons x rest ih =>
    obtain ⟨hx, hr⟩ := List.pairwise_cons.mp h
    unfold insertFrame
    split
    · rename_i hle
      refine List.pairwise_cons.mpr ⟨fun g hg => ?_, ih hr⟩
      rcases mem_insertFrame.mp hg with rfl | hg
      · exact hle
      · exact hx g hg
    · rename_i hlt
      refine List.pairwise_cons.mpr ⟨fun g hg => ?_, h⟩
      rcases List.mem_cons.mp hg with rfl | hg
      · omega
      · have := hx g hg; omega

/-- An offer changes the Line Controller alone. -/
theorem offer_frame (f : Frame) (s : State) : offer f s = s.setLine (offer f s).line := by
  unfold offer; split <;> rfl

/-- An accepted offer (R115). -/
theorem offer_accepted {f : Frame} {s : State} (h : queueHasRoom s = true) :
    offer f s = s.setLine { s.line with queue := insertFrame f s.line.queue } := if_pos h

/-- A refused offer leaves the state (R115). -/
theorem offer_refused {f : Frame} {s : State} (h : queueHasRoom s = false) : offer f s = s := by
  simp [offer, h]

/-- A change to the open proposal changes the Proposer Unit alone. -/
theorem mapProposal_frame (f : Proposal → Proposal) (s : State) :
    mapProposal f s = s.setProp (mapProposal f s).prop := by
  unfold mapProposal; split <;> rfl

/-- The open proposal's frame, offered, changes the Line Controller and the Proposer Unit alone. -/
theorem offerProposalFrame_frame (f : Frame) (s : State) :
    offerProposalFrame f s = (s.setLine (offerProposalFrame f s).line).setProp (offerProposalFrame f s).prop := by
  unfold offerProposalFrame mapProposal offer; split <;> split <;> rfl

/-- The report of a freed entry changes the Line Controller and the Proposer Unit alone. -/
theorem entryFreed_frame (s : State) :
    entryFreed s = (s.setLine (entryFreed s).line).setProp (entryFreed s).prop := by
  unfold entryFreed
  split
  · split
    · split
      · rfl
      · exact offerProposalFrame_frame _ _
    · rfl
  · rfl

/-- Aborting the attempt changes the Line Controller alone, leaves no attempt, and keeps the queue and the counts (R116). -/
theorem abortAttempt_spec (s : State) :
    abortAttempt s = s.setLine (abortAttempt s).line ∧ (abortAttempt s).line.attempt = none ∧
      (abortAttempt s).line.queue = s.line.queue ∧ (abortAttempt s).line.counters = s.line.counters ∧
      (abortAttempt s).line.failures = s.line.failures := by
  unfold abortAttempt
  split
  · exact ⟨rfl, rfl, rfl, rfl, rfl⟩
  · rename_i h; exact ⟨rfl, h, rfl, rfl, rfl⟩

/-- A withdrawal changes the Line Controller and the Proposer Unit alone. -/
theorem withdrawFrame_frame (which : Frame → Bool) (s : State) :
    withdrawFrame which s = (s.setLine (withdrawFrame which s).line).setProp (withdrawFrame which s).prop := by
  unfold withdrawFrame
  split
  · split
    · rw [entryFreed_frame, (abortAttempt_spec s).1]; rfl
    · rw [entryFreed_frame]; rfl
  · rfl

/-- A withdrawal that finds no frame leaves the state. -/
theorem withdrawFrame_none {which : Frame → Bool} {s : State} (h : s.line.queue.any which = false) :
    withdrawFrame which s = s := by
  simp only [withdrawFrame, h, Bool.false_eq_true, if_false]

/-! ### The observed line (R114, R122) -/

/-- A new observed state changes the Line Controller alone. -/
theorem observe_frame (l : LineState) (s : State) :
    observe l s = s.setLine { s.line with observed := some l, since := s.clock.osc } := rfl

/-- The end of a frame changes the Line Controller alone: the observed state and its instant (R114). -/
theorem endFrame_frame (cutShort : Bool) (s : State) :
    ∃ o t, endFrame cutShort s = s.setLine { s.line with observed := o, since := t } := by
  unfold endFrame
  split
  · split
    · exact ⟨_, _, rfl⟩
    · exact ⟨_, _, rfl⟩
  · exact ⟨s.line.observed, s.line.since, rfl⟩

/-- A failed attempt changes the Line Controller and the Notice Unit alone and leaves no attempt (R122). -/
theorem failAttempt_spec (s : State) :
    failAttempt s = (s.setLine (failAttempt s).line).setNotes (failAttempt s).notes ∧
      (failAttempt s).line.attempt = none ∧
      (failAttempt s).line.failures = min (s.line.failures + 1) Config.failureLimit ∧
      (failAttempt s).line.queue = s.line.queue := by
  simp only [failAttempt]
  split
  · exact ⟨rfl, rfl, rfl, rfl⟩
  · exact ⟨rfl, rfl, rfl, rfl⟩

end Sys2Proof.Machine
end

