-- ==== Sys2Proof/Laws/Units.lean ====
section
/-! SUPPORT. What the shared operations of the units can do: which blocks each leaves alone, and its effect. -/

namespace Sys2Proof.Machine

/-! ### Outputs (Chapter 1) -/

/-- A handover changes the channel table and the claims alone. -/
theorem handover_frame (set : SetId) (e : NetTime) (items : List Item) (s : State) :
    handover set e items s =
      (s.setChans (handover set e items s).chans).setPart
        { s.part with claims := (handover set e items s).part.claims } := rfl

/-- A channel that no item names is left by a handover (R10). -/
theorem handover_other {set : SetId} {e : NetTime} {items : List Item} {s : State} {c : Fin 16}
    (h : items.find? (onChannel c) = none) : (handover set e items s).chans[c] = s.chans[c] := by
  simp [handover, h]

/-- An item of a handover meets its own channel (R10). -/
theorem handover_at {set : SetId} {e : NetTime} {items : List Item} {s : State} {c : Fin 16} {it : Item}
    (h : items.find? (onChannel c) = some it) :
    (handover set e items s).chans[c] = takeItem set e s.time.now it s.chans[c] := by
  simp [handover, h]

/-- The safe level and the loss policy of a channel survive each item of a handover (R157). -/
theorem takeItem_config (set : SetId) (e now : NetTime) (it : Item) (ch : ChannelRecord) :
    (takeItem set e now it ch).safe = ch.safe ∧ (takeItem set e now it ch).policy = ch.policy := by
  unfold takeItem installProgram
  split
  · exact ⟨rfl, rfl⟩
  · simp only
    split
    · exact ⟨rfl, rfl⟩
    · split <;> exact ⟨rfl, rfl⟩

/-- A release report changes the claims alone (R27). -/
theorem releaseClaim_frame (c : Fin 16) (set : SetId) (s : State) :
    releaseClaim c set s = s.setPart { s.part with claims := (releaseClaim c set s).part.claims } := by
  unfold releaseClaim; split <;> rfl

/-- A swap that is not due leaves the state. -/
theorem completeSwap_idle {c : Fin 16} {s : State} (h : swapDue s c = false) : completeSwap c s = s := by
  unfold completeSwap
  unfold swapDue at h
  split
  · rename_i w hw
    rw [hw] at h
    simp only at h
    rw [h]; rfl
  · rfl

/-- A completed swap (R16). -/
theorem completeSwap_due {c : Fin 16} {s : State} {w : PendingSwap} (hw : s.chans[c].pending = some w)
    (hr : reached s.time.now w.boundary = true) :
    completeSwap c s =
      raise .setApplied (releaseClaim c w.set (s.setChans (s.chans.set c.val
        { s.chans[c] with active := w.program, anchor := w.boundary, pending := none }))) := by
  unfold completeSwap
  rw [hw]
  simp only [hr, if_true]
  rfl

/-! ### Records (Chapter 2) -/

/-- Writing a position changes the table alone. -/
theorem putRecord_frame (i : Fin 4) (o : Option SetRecord) (s : State) :
    putRecord i o s = s.setPart { s.part with table := s.part.table.set i.val o } := rfl

/-- A written position reads as written. -/
@[simp] theorem putRecord_same (i : Fin 4) (o : Option SetRecord) (s : State) :
    (putRecord i o s).part.table[i] = o := by
  simp [putRecord_frame]

/-- Writing a position leaves every other. -/
theorem putRecord_other {i j : Fin 4} (o : Option SetRecord) (s : State) (h : j ≠ i) :
    (putRecord i o s).part.table[j] = s.part.table[j] := by
  have : i.val ≠ j.val := fun e => h (Fin.ext e.symm)
  simp [putRecord_frame, Vector.getElem_set_ne _ _ this]

/-- A freed record's channels lose its claims, and no other claim goes (R27). -/
theorem releaseItems_claim (set : SetId) (items : List Item) (s : State) (c : Fin 16) :
    (releaseItems set items s).part.claims[c] =
      if items.any (onChannel c) = true ∧ s.part.claims[c] = some set then none else s.part.claims[c] := by
  simp [releaseItems]

/-- A READY vote claims the record's channels and no other (R33). -/
theorem claimItems_claim (set : SetId) (items : List Item) (s : State) (c : Fin 16) :
    (claimItems set items s).part.claims[c] = if items.any (onChannel c) then some set else s.part.claims[c] := by
  simp [claimItems]

/-- Freeing a record changes the Participant Unit, the Line Controller and the Proposer Unit alone. -/
theorem freeRecord_frame (i : Fin 4) (s : State) :
    freeRecord i s =
      ((s.setPart (freeRecord i s).part).setLine (freeRecord i s).line).setProp (freeRecord i s).prop := by
  unfold freeRecord
  split
  · simp only
    rw [withdrawFrame_frame]
    split <;> rfl
  · rfl

/-- Freeing an empty position leaves the state. -/
theorem freeRecord_empty {i : Fin 4} {s : State} (h : s.part.table[i] = none) : freeRecord i s = s := by
  unfold freeRecord; rw [h]

/-- Freeing a STAGING record without a queued INQUIRE empties its position and does nothing else. -/
theorem freeRecord_staging {i : Fin 4} {s : State} {r : SetRecord} (h : s.part.table[i] = some r)
    (hs : r.state = .staging) (hq : s.line.queue.any (isInquireFor r.set) = false) :
    freeRecord i s = putRecord i none s := by
  unfold freeRecord
  rw [h]
  simp only [hs, if_true]
  exact withdrawFrame_none hq

/-- A record freed without a queued INQUIRE: its position is emptied and its claims released, and nothing else. -/
theorem freeRecord_voted {i : Fin 4} {s : State} {r : SetRecord} (h : s.part.table[i] = some r)
    (hs : r.state ≠ .staging) (hq : s.line.queue.any (isInquireFor r.set) = false) :
    freeRecord i s = releaseItems r.set r.items (putRecord i none s) := by
  unfold freeRecord
  rw [h]
  simp only [hs, if_false]
  exact withdrawFrame_none hq

/-! ### Members (Chapter 6) -/

/-- Hearing a station changes its member entry and the Notice Unit alone (R102). -/
theorem hear_frame (src : Station) (s : State) :
    hear src s =
      (s.setMemb { s.memb with entries := (hear src s).memb.entries }).setNotes (hear src s).notes := by
  unfold hear
  simp only
  rw [raiseIf_frame]
  rfl

/-! ### The local port (Chapter 11) -/

/-- A command of the right length goes to its owner, and the owner's answer becomes the stored response (R169, R170). -/
theorem takeCommand_owner {code : Byte} {len : Nat} {args : List Byte} {owner : State → Answer} {s : State}
    (hc : carriesCommand s = true) (hl : args.length = len) :
    takeCommand code len args owner s = storeResponse code (owner s) := by
  simp only [takeCommand, hc, hl, if_true]

/-- A command of a wrong length is refused BAD_ARGUMENT before any owner sees it (R169). -/
theorem takeCommand_length {code : Byte} {len : Nat} {args : List Byte} {owner : State → Answer} {s : State}
    (hc : carriesCommand s = true) (hl : args.length ≠ len) :
    takeCommand code len args owner s =
      s.setPort { stored := { code := code, status := .badArgument, results := [] }, transaction := none } := by
  simp only [takeCommand, hc, hl, if_true, if_false]
  rfl

/-- No command is taken while a hard reset lasts, nor in a transaction that one has met (R155, R168). -/
theorem takeCommand_spoiled {code : Byte} {len : Nat} {args : List Byte} {owner : State → Answer} {s : State}
    (hc : carriesCommand s = false) : takeCommand code len args owner s = releaseOnly s := by
  simp [takeCommand, hc]

/-! ### Captures (Chapter 9) -/

/-- An offered capture record changes the Capture Unit and the Notice Unit alone (R148, R149). -/
theorem offerCapture_frame (i : Fin 8) (e : Edge) (s : State) :
    offerCapture i e s = (s.setCapt (offerCapture i e s).capt).setNotes (offerCapture i e s).notes := by
  simp only [offerCapture]; split <;> rfl

/-- Taking an input's edge changes the Capture Unit and the Notice Unit alone (R145 to R149). -/
theorem takeEdge_frame (i : Fin 8) (s : State) :
    takeEdge i s = (s.setCapt (takeEdge i s).capt).setNotes (takeEdge i s).notes := by
  unfold takeEdge
  split
  · simp only
    split
    · rw [offerCapture_frame]; rfl
    · rfl
  · rfl

/-- Taking edges changes the Capture Unit and the Notice Unit alone: all of them carry one time and one quality (R147). -/
theorem takeEdges_frame (is : List (Fin 8)) (s : State) :
    ∃ c n, is.foldl (fun t i => takeEdge i t) s = (s.setCapt c).setNotes n := by
  induction is generalizing s with
  | nil => exact ⟨s.capt, s.notes, rfl⟩
  | cons i rest ih =>
    obtain ⟨c, n, h⟩ := ih (takeEdge i s)
    exact ⟨c, n, h.trans (by rw [takeEdge_frame i s]; rfl)⟩

/-- CAPTURE_EDGE changes the Capture Unit, the Notice Unit and the model's count of free choices alone (R145 to R149). -/
theorem execCaptureEdge_frame {i : Fin 8} {level : Level} {s t : State} (h : execCaptureEdge i level s = .next t) :
    t = ((s.setClock { s.clock with choices := t.clock.choices }).setCapt t.capt).setNotes t.notes := by
  unfold execCaptureEdge sampleInputs at h
  injection h with h
  subst h
  split
  all_goals
    obtain ⟨c, n, h⟩ := takeEdges_frame (sampleOrder (setPin i level s)) _
    rw [h]
    rfl

/-- No edge is shown outside capture, on an input already taken in this microsecond, or when an earlier sample was the
microsecond's (R145, R147). -/
theorem shownEdge_none {i : Fin 8} {s : State}
    (h : s.ctl.state = .config ∨ s.capt.sampled[i] = some (microsecond s) ∨ sampleOpen s = false) :
    shownEdge s i = none := by
  rcases h with h | h | h
  · simp [shownEdge, captureActive, h]
  · simp only [shownEdge, unsampled, h, bne_self_eq_false, Bool.and_false, Bool.false_eq_true, if_false]
  · simp [shownEdge, h]

/-- A sample that has shown an edge stands for the rest of its instant: the other inputs are taken at it (R147). -/
@[simp] theorem sampleOpen_setReference (i : Fin 8) (s : State) : sampleOpen (setReference i s) = true := by
  simp [sampleOpen, setReference, sampleNow]

/-! ### The self record, hard reset, the acts that are due -/

/-- The creation of a self record changes the participant table alone (R46). -/
theorem createSelf_frame (set : SetId) (items : List Item) (s : State) :
    createSelf set items s = s.setPart { s.part with table := (createSelf set items s).part.table } := by
  unfold createSelf; split <;> rfl

/-- While a record holds the set id none is created (R24). -/
theorem createSelf_held {set : SetId} {items : List Item} {s : State} {i : Fin 4} (h : findRecord set s = some i) :
    createSelf set items s = s := by
  simp [createSelf, h]

/-- With no undecided self record of the set a COMMIT sent arms nothing (R48). -/
theorem armSelf_none {set : SetId} {s : State} (h : findSelf set s = none) : armSelf set s = s := by
  simp [armSelf, h]

/-- A self record that has not voted is left by a COMMIT sent (R48). -/
theorem armSelf_unvoted {set : SetId} {s : State} {i : Fin 4} (h : findSelf set s = some i)
    (hv : holdsRecord (fun r => r.state == .voted) s i = false) : armSelf set s = s := by
  simp [armSelf, h, hv]

/-- While a hard reset lasts the outputs show nothing and no command is taken (R155, R178). -/
theorem outputs_resetting {s : State} (h : s.ctl.resetting = true) :
    (∀ c, pinLevel s c = .low) ∧ attn s = false ∧ ltxDominant s = false ∧ carriesCommand s = false := by
  simp [pinLevel, attn, ltxDominant, carriesCommand, h]

/-- An event is among the acts of one condition when the condition holds. -/
theorem mem_dueIf {b : Bool} {i j : Instr} : Act.event i ∈ dueIf b j ↔ b = true ∧ i = j := by
  cases b <;> simp [dueIf]

end Sys2Proof.Machine
end

