-- ==== Sys2Proof/Tests/Slice0.lean ====
section
/-! SUPPORT. Tests: ill-formed terms, the spec's worked examples, and a state that meets the hypotheses of each statement. -/

namespace Sys2Proof.Tests

open Sys2Proof.Machine

/-! ### Ill-formed frames and commands (R137, R169) -/

/-- A set of station 7. -/
def set7 : SetId := { proposer := 7, seq := 3 }

/-- An item that holds channel 3 HIGH from its epoch. -/
def item3 : Item := { load := .atEpoch, channel := 3, program := holdProgram .high }

/-- A target-list entry of a CALL. -/
def entry (st : Station) (count : Byte) : CallEntry := { station := st, count := count }

theorem test_illformed_sequence_zero : (Instr.commit 7 { proposer := 7, seq := 0 }).wellFormed = false := by decide
theorem test_illformed_abort_sequence : (Instr.abort 7 { proposer := 7, seq := 0 } .late).wellFormed = false := by decide
theorem test_illformed_decision_sequence :
    (Instr.decision 7 5 { proposer := 7, seq := 0 } .unknown).wellFormed = false := by decide
theorem test_illformed_inquire_sequence : (Instr.inquire 7 5 { proposer := 5, seq := 0 }).wellFormed = false := by decide
theorem test_illformed_missed_sequence : (Instr.missed 7 5 { proposer := 5, seq := 0 }).wellFormed = false := by decide
theorem test_illformed_call_empty : (Instr.call 7 set7 0 []).wellFormed = false := by decide
theorem test_illformed_call_nine :
    (Instr.call 7 set7 0 ([8, 9, 10, 11, 12, 13, 14, 15, 16].map (entry · 1))).wellFormed = false := by decide
theorem test_illformed_call_twice : (Instr.call 7 set7 0 [entry 5 1, entry 5 2]).wellFormed = false := by decide
theorem test_illformed_call_names_source : (Instr.call 7 set7 0 [entry 7 1]).wellFormed = false := by decide
theorem test_illformed_call_count_zero : (Instr.call 7 set7 0 [entry 5 0]).wellFormed = false := by decide
theorem test_illformed_call_count_seventeen : (Instr.call 7 set7 0 [entry 5 17]).wellFormed = false := by decide
theorem test_illformed_call_sequence :
    (Instr.call 7 { proposer := 7, seq := 0 } 0 [entry 5 1]).wellFormed = false := by decide
theorem test_illformed_reply_slots : (Instr.reply 7 5 set7 .ready 33).wellFormed = false := by decide
theorem test_illformed_reply_sequence :
    (Instr.reply 7 5 { proposer := 5, seq := 0 } .ready 1).wellFormed = false := by decide
theorem test_illformed_stage_empty : (Instr.stage 7 5 set7 []).wellFormed = false := by decide
theorem test_illformed_stage_five : (Instr.stage 7 5 set7 (List.replicate 5 item3)).wellFormed = false := by decide
theorem test_illformed_stage_sequence :
    (Instr.stage 7 5 { proposer := 7, seq := 0 } [item3]).wellFormed = false := by decide
theorem test_illformed_presence_records : (Instr.presence 7 .locked 5 0 false).wellFormed = false := by decide
theorem test_illformed_presence_slots : (Instr.presence 7 .locked 0 33 false).wellFormed = false := by decide
theorem test_illformed_known_code : (Instr.unknownCommand 18 []).wellFormed = false := by decide
theorem test_wellformed_at_the_limits :
    (Instr.call 7 set7 0 ([8, 9, 10, 11, 12, 13, 14, 15].map (entry · 16))).wellFormed = true ∧
      (Instr.reply 7 5 set7 .ready 32).wellFormed = true ∧ (Instr.presence 7 .locked 4 32 true).wellFormed = true ∧
      (Instr.stage 7 5 set7 (List.replicate 4 item3)).wellFormed = true ∧
      (Instr.unknownCommand 19 []).wellFormed = true := by decide

/-! ### Levels and boundaries (the tables of sections 1.3, 1.4 and the worked example of Chapter 1) -/

/-- A TRAIN of section 1.3: s = 100, p = 1,000, w = 250, HIGH over LOW. -/
def train (count : BitVec 16) : Program :=
  { mode := .train, start := 100, period := 1000, width := 250, count := count, active := .high, rest := .low }

theorem test_train_levels :
    [50, 100, 349, 350, 1100, 2349, 3099, 3100].map (fun n => levelAt (train 3) 0 (BitVec.ofNat 48 n)) =
        [.low, .high, .high, .low, .high, .high, .low, .low] ∧
      levelAt (train 0) 0 3100 = .high := by decide

/-- The old TRAIN of the worked example of Chapter 1. -/
def oldTrain : Program :=
  { mode := .train, start := 500, period := 40000, width := 10000, count := 0, active := .high, rest := .low }

theorem test_train_boundary : boundaryOf oldTrain 10000000 10175000 = 10200500 := by decide
theorem test_train_pin_levels :
    [10160500, 10170500, 10175000].map (fun n => levelAt oldTrain 10000000 (BitVec.ofNat 48 n)) =
      [.high, .low, .low] := by decide
theorem test_pulse_late_handover :
    let p : Program :=
      { mode := .pulse, start := 0, period := 0, width := 2000, count := 0, active := .high, rest := .low }
    levelAt p 1000 1500 = .high ∧ levelAt p 1000 2999 = .high ∧ levelAt p 1000 3000 = .low ∧
      boundaryOf p 1000 2999 = 3000 ∧ boundaryOf p 1000 3000 = 3000 ∧ boundaryOf p 1000 999 = 999 := by decide

/-! ### Characters (R132, R133, R135, section 8.3; the arbitration example of section 7.3) -/

set_option maxRecDepth 100000 in
/-- R133: the CRC of the characters "123456789" is 10,673 (29B1 hexadecimal). -/
theorem test_crc_of_digits : crcOf [49, 50, 51, 52, 53, 54, 55, 56, 57] = 10673 := by decide

/-- Queue order by example (section 7.2): PRESENCE, STAGE, INQUIRE, SYNC and DECISION of station 7. -/
theorem test_queue_order :
    let f (body : Body) : Frame := { src := 7, dest := none, body := body }
    ([f (.presence .locked 0 0 false), f (.stage set7 []), f (.inquire set7), f (.sync 0),
        f (.decision set7 .unknown)].foldl (fun q g => insertFrame g q) []).map (fun g => (g.body.kind, g.arbitration)) =
      [(.sync, 7), (.decision, 39), (.stage, 71), (.inquire, 71), (.presence, 103)] := by decide

/-- Arbitration by example (section 7.3). -/
theorem test_arbitration_values :
    Frame.arbitration { src := 6, dest := none, body := .stage set7 [] } = 70 ∧
      Frame.arbitration { src := 9, dest := none, body := .call set7 0 [] } = 41 ∧
      Frame.arbitration { src := 20, dest := none, body := .presence .locked 0 0 false } = 116 := by decide

/-- The characters with good stop bits. -/
def clean (bs : List Byte) : List RxChar := bs.map fun b => { value := b, stop := true }

/-- Characters with their CRC behind them. -/
def withCrc (bs : List Byte) : List Byte := bs ++ beBytes 2 (crcOf bs).toNat

set_option maxRecDepth 100000 in
/-- Classification by example (section 8.3): the frames of the table at station 9. -/
theorem test_classify_bad_reason : classifyFrame 9 (clean (withCrc [35, 3, 255, 3, 3, 40, 9])) = .malformedFrame := by
  decide
set_option maxRecDepth 100000 in
theorem test_classify_unknown_kind : classifyFrame 9 (clean (withCrc [35, 12, 255, 0])) = .unknownKind := by decide
set_option maxRecDepth 100000 in
theorem test_classify_commit_to_station : classifyFrame 9 (clean (withCrc [35, 2, 5, 2, 3, 40])) = .malformedFrame := by
  decide
set_option maxRecDepth 100000 in
theorem test_classify_call_names_source :
    classifyFrame 9 (clean (withCrc [35, 1, 255, 13, 3, 40, 0, 0, 0, 0, 0, 9, 2, 3, 1, 9, 2])) = .malformedFrame := by
  decide
set_option maxRecDepth 100000 in
theorem test_classify_reply_slots :
    classifyFrame 9 (clean (withCrc [44, 4, 3, 4, 3, 40, 0, 40])) = .malformedFrame := by decide
set_option maxRecDepth 100000 in
theorem test_classify_wrong_crc : classifyFrame 9 (clean [108, 9, 255, 4, 2, 4, 32, 0, 0, 0]) = .crcError .mismatch := by
  decide
set_option maxRecDepth 100000 in
theorem test_classify_commit :
    classifyFrame 9 (clean (withCrc [36, 2, 255, 2, 3, 40])) = .commit 4 { proposer := 3, seq := 40 } := by decide
set_option maxRecDepth 100000 in
theorem test_classify_cut_short : classifyFrame 9 (clean [36, 2, 255, 2, 3]) = .crcError .cutShort := by decide
set_option maxRecDepth 100000 in
theorem test_classify_framing :
    classifyFrame 9 [{ value := 36, stop := true }, { value := 2, stop := false }] = .crcError .framing := by decide
set_option maxRecDepth 100000 in
theorem test_classify_own_number :
    classifyFrame 4 (clean (withCrc [36, 2, 255, 2, 3, 40])) = .ownNumberFrame .commit := by decide

/-- R135: an AT_BOUNDARY item for channel 7 with a TRAIN, HIGH over LOW, p = 2,000, w = 500. -/
theorem test_item_record :
    itemBytes { load := .atBoundary, channel := 7, program :=
      { mode := .train, start := 0, period := 2000, width := 500, count := 0, active := .high, rest := .low } } =
        [135, 160, 0, 0, 0, 0, 0, 7, 208, 0, 1, 244, 0, 0] := by decide

/-- R167: the whole characters of the bits shifted in, a partial one discarded. -/
theorem test_transaction_bits :
    transactionOf ((byteBits 15 ++ byteBits 7) ++ [true, true]) = .readMember [7] ∧
      transactionOf [true, false, true] = .transactionWithoutCommand ∧
      transactionOf (byteBits 19) = .unknownCommand 19 [] := by decide

/-- The opcode table gives no bits. -/
theorem test_no_word_spells_a_command : decodeTableWord 8 0 = none := rfl

/-! ### A small MEMBER station -/

/-- Another station, PRESENT and LOCKED. -/
def peer : MemberEntry :=
  { state := .present, missed := 0, heard := true, lastHeard := some 900, lock := some .locked, records := some 4,
    slots := some 32 }

/-- Station 5 at 1 Mbit/s, MEMBER and LOCKED, with station 7 PRESENT; the line is IDLE. -/
def station : State :=
  { State.reset with
    clock := { osc := 10000, microDue := false, choices := 0 }
    ctl := { state := .member, number := 5, rate := .m1, auto := false, resetting := false }
    time :=
      { TimeUnit.initial 0 with
        now := 1000000, running := true, lock := .locked, supervision := some 0, syncTimer := some 0
        sample := some 999000 }
    memb :=
      { Membership.initial 5 with
        entries := (Membership.initial 5).entries.set 7 peer
        interval := some 0, presence := some 0, announced := true }
    line := { LineController.initial with observed := some .idle, since := 9000 }
    capt :=
      { State.reset.capt with
        refs := Vector.replicate 8 (some .low), sampled := Vector.replicate 8 (some 4999) } }

/-- The same station while a frame of another station ends. -/
def listener : State :=
  station.setLine { station.line with observed := some .frame, since := 9500, frameStart := some 9500 }

/-- A record of station 7's set. -/
def record (state : RecordState) (epoch : NetTime) : SetRecord :=
  { set := set7, state := state, epoch := if state = .staging then none else some epoch,
    expected := if state = .staging then none else some 1, items := [item3], short := false, invalid := false,
    inquiries := 0, windowEnd := none, timer := if state = .armed then none else some 0, self := false }

/-- A station with a record at position 0, its channel claimed once it has voted. -/
def holding (r : SetRecord) (s : State) : State :=
  s.setPart { s.part with
    table := s.part.table.set 0 (some r)
    claims := if r.state = .staging then s.part.claims else s.part.claims.set 3 (some r.set) }

/-- An item of a draft for a station. -/
def draftItem (st : Station) : DraftItem := { target := st, item := item3 }

/-- A station that drafts a set for the stations of a list, far enough ahead. -/
def drafting (sts : List Station) : State :=
  station.setProp { station.prop with activity := .drafting { epoch := 1010000, items := sts.map draftItem } }

/-- A proposal for station 7 in a phase. -/
def proposal (phase : OpenPhase) (out : Option Outstanding) : Proposal :=
  { set := { proposer := 5, seq := 1 }, epoch := 1010000, phase := phase, items := [draftItem 7],
    targets := [{ station := 7, count := 1, result := .pending }], selfIncluded := false, selfCount := 0,
    selfResult := .pending, nextStage := 0, outstanding := out, callSent := phase = .voting ∨ phase = .committing,
    windowStart := none, windowEnd := none, lockLost := false, abortReason := if phase = .aborting then some .late else none }

/-- A station with an open proposal and a transmit queue. -/
def proposing (p : Proposal) (queue : List Frame) (s : State) : State :=
  (s.setProp { s.prop with activity := .active p }).setLine { s.line with queue := queue }

/-- A frame of station 5. -/
def ownSends (dest : Option Station) (body : Body) : Frame := { src := 5, dest := dest, body := body }

/-- A station whose frame has just left the line complete. -/
def sender (f sent : Frame) (queue : List Frame) (s : State) : State :=
  s.setLine { s.line with
    queue := queue
    observed := some .frame
    frameStart := some 0
    attempt := some { reply := false, entry := f, sent := sent, start := 0 } }

/-- A station with INQUIREs for sets of station 7 queued. -/
def asksFor (sets : List SetId) (s : State) : State :=
  s.setLine { s.line with queue := sets.map fun set => ownSends (some 7) (.inquire set) }

/-- What a command answers, looked at through a function. -/
def after {α : Type} (c : Instr) (s : State) (look : State → α) : Option α :=
  match exec c s with
  | .next t => some (look t)
  | .fault _ => none
  | .refused _ => none

/-! ### One step of the commands -/

theorem test_configure_channel_code_two :
    after (.configureChannel [0, 2, 0]) State.reset (fun t => t.port.stored.status) = some .badArgument := by decide
theorem test_open_set_outside_member :
    after (.openSet [0, 0, 0, 0, 0, 1]) State.reset (fun t => t.port.stored.status) = some .badState := by decide
theorem test_add_item_target_32 :
    after (.addItem (32 :: itemBytes item3)) (drafting [7]) (fun t => t.port.stored.status) = some .badArgument := by
  decide
theorem test_submit_announcement :
    after (.submit []) ((drafting [7]).setMemb { (drafting [7]).memb with announced := false })
      (fun t => t.port.stored.status) = some .badState := by decide
theorem test_submit_first_stage :
    after (.submit []) (drafting [7]) (fun t => (t.port.stored.status, t.line.queue, t.prop.sequence)) =
      some (.ok, [ownSends (some 7) (.stage { proposer := 5, seq := 1 } [item3])], 2) := by decide
theorem test_self_only_commits :
    after (.submit []) (drafting [5]) (fun t => (t.prop.activity, t.prop.log.map (·.abort), t.part.claims[3])) =
      some (.idle, [none], some { proposer := 5, seq := 1 }) := by decide
theorem test_read_notice_none : after (.readNotice []) station (fun t => t.port.stored.results) =
    some [0, 0, 0, 0, 0, 0, 0] := by decide
theorem test_read_member_self :
    after (.readMember [5]) station (fun t => t.port.stored.results) =
      some [5, 3, 14, 0, 0, 0, 0, 0, 0, 0, 2, 4, 32, 1] := by decide
theorem test_gap_of_eleven_bits :
    after .gapEnd (station.setLine { station.line with observed := some (.gap 0), since := 10000 - 23 })
      (fun t => t.line.observed) = some (some (.gap 0)) := by decide
theorem test_gap_of_twelve_bits :
    after .gapEnd (station.setLine { station.line with observed := some (.gap 0), since := 10000 - 24 })
      (fun t => t.line.observed) = some (some .idle) := by decide

/-- Chapter 5, "Offset, slew and step": trim 3, sample 81,249,988, carried 81,250,000: a slew of +15. -/
theorem test_sync_offset_fifteen :
    after (.sync 2 81250000) (listener.setTime { listener.time with sample := some 81249988, trim := 3 })
      (fun t => (t.time.slew, t.time.lock, t.notes.flags)) =
        some (some { offset := 15, remaining := 15, progress := 0 }, .locked, 256) := by decide
/-- The next interval of that example: an offset of -45 steps back, and drops the slew. -/
theorem test_sync_step_back :
    after (.sync 7 81249952)
      (listener.setTime
        { listener.time with
          now := 81250120, sample := some 81250000, trim := 3
          slew := some { offset := 15, remaining := 4, progress := 70000 } })
      (fun t => (t.time.now, t.time.slew, t.time.lastStep, t.time.lock, t.notes.flags)) =
        some (81250075, none, some (-45), .locked, 8) := by decide
/-- Chapter 5, "A station joins the line": the first SYNC steps by 512,303,002 and makes it ACQUIRING. -/
theorem test_sync_first_of_a_joiner :
    after (.sync 4 512340000)
      ((listener.setCtl { listener.ctl with state := .joining }).setTime
        { TimeUnit.initial 2 with
          now := 37120, running := true, syncTimer := some 37120, selfSource := some 37120, sample := some 37000 })
      (fun t => (t.time.now, t.time.lock, t.time.selfSource, t.time.lastStep, t.notes.flags)) =
        some (512340122, .acquiring, none, some 512303002, 268) := by decide
theorem test_slew_pieces :
    [(0, 6665), (0, 6666), (1, 13332), (1, 13333), (14, 99999), (14, 100000)].map (fun x : Nat × Nat =>
      pieceDue { offset := 15, remaining := 15 - x.1, progress := x.2 - 1 }) =
        [false, true, false, true, false, true] := by decide

/-- Chapter 2, "A full store at a target": the third frame finds no slot, the fourth no position. -/
theorem test_stage_short :
    stageItems 0 (record .staging 0) [{ item3 with channel := 4 }] = { record .staging 0 with short := true } := by
  decide
theorem test_stage_channel_twenty :
    after (.stage 7 5 set7 [{ item3 with channel := 20 }]) listener
      (fun t => (t.part.table[0].map (·.invalid), t.part.table[0].map (·.items))) = some (some true, some []) := by decide
theorem test_call_ready :
    after (.call 7 set7 1010000 [entry 9 2, entry 5 1]) (holding (record .staging 0) listener)
      (fun t => (t.part.table[0].map (·.state), t.part.claims[3], t.line.replies, t.line.reservation)) =
        some (some .voted, some set7,
          [{ frame := ownSends (some 7) (.reply set7 .ready 31), start := 10000 + 2 * (12 + 128) }],
          some (10000 + 2 * (12 + 256))) := by decide
theorem test_call_unknown_set :
    after (.call 7 set7 1010000 [entry 5 1]) listener (fun t => t.line.replies.map (·.frame.body)) =
      some [.reply set7 (.refused .unknownSet) 32] := by decide
theorem test_commit_of_another_proposer :
    after (.commit 7 { proposer := 3, seq := 40 }) listener (fun t => t.line.counters.anomalies) = some 1 := by decide
theorem test_abort_armed_is_ignored :
    after (.abort 7 set7 .late) (holding (record .armed 1010000) listener)
      (fun t => (t.part.table[0].map (·.state), t.line.counters.anomalies)) = some (some .armed, 1) := by decide
theorem test_decision_unknown_frees :
    after (.decision 7 5 set7 .unknown) (holding (record .inDoubt 1010000) listener)
      (fun t => (t.part.table[0], t.part.claims[3], t.notes.flags)) = some (none, none, 16) := by decide
theorem test_inquire_unknown :
    after (.inquire 7 5 { proposer := 5, seq := 9 }) listener (fun t => t.line.queue) =
      some [ownSends (some 7) (.decision { proposer := 5, seq := 9 } .unknown)] := by decide
theorem test_epoch_handover_pending :
    let s := holding { record .armed 10175000 with items := [{ item3 with load := .atBoundary }] }
      ((station.setTime { station.time with now := 10175000 }).setChans
        (station.chans.set 3 { ChannelRecord.initial with active := oldTrain, anchor := 10000000 }))
    after (.epochApply 0) s (fun t => (t.chans[3].pending.map (·.boundary), t.part.claims[3], t.part.table[0])) =
      some (some 10200500, some set7, none) := by decide
theorem test_capture_full_queue :
    let r : CaptureRecord := { input := 0, edge := .rising, time := 0, quality := .locked, lostBefore := 0 }
    let s := station.setCapt
      { station.capt with selections := Vector.replicate 8 .both, queue := List.replicate 32 r, pendingLost := 255 }
    after (.captureEdge 2 .high) s (fun t => (t.capt.queue.length, t.capt.pendingLost, t.capt.totalLost, t.notes.flags)) =
      some (32, 255, 1, 512) := by decide
/-- R145, R147: a second edge of an input in one microsecond makes no record, and one after the microsecond's sample, the time
having moved, waits on its pin for the next; at the sample itself another input's edge makes a record with the same time. -/
theorem test_capture_once_a_microsecond :
    let both := { station.capt with selections := Vector.replicate 8 .both }
    let s := station.setCapt { both with refs := Vector.replicate 8 (some .high), sampled := Vector.replicate 8 (some 5000) }
    let sampled (time : NetTime) : State :=
      station.setCapt { both with lastSample := some { instant := 10000, time := time, quality := .locked } }
    after (.captureEdge 2 .low) s (fun t => (t.capt.queue.length, t.capt.pins[2], t.capt.refs[2])) =
        some (0, .low, some .high) ∧
      after (.captureEdge 2 .high) (sampled 999999) (fun t => (t.capt.queue.length, t.capt.pins[2],
        sampleDue t 2, sampleDue (t.setClock { t.clock with osc := 10002 }) 2)) = some (0, .high, false, true) ∧
      after (.captureEdge 2 .high) (sampled 1000000) (fun t => (t.capt.queue.map (·.time), t.capt.refs[2])) =
        some ([1000000], some .high) := by decide
/-- R154: SA4 to SA0 LOW HIGH HIGH LOW HIGH, LR1 HIGH, LR0 LOW. -/
theorem test_straps_are_read_from_the_pins :
    after (.hardReset .released #v[.high, .low, .high, .high, .low] { lr1 := .high, lr0 := .low, auto := .low }) station
      (fun t => (t.ctl.number, t.ctl.rate, t.ctl.auto, t.ctl.resetting)) = some (13, .m1, false, false) := by decide
/-- R155, R178: while a hard reset lasts a channel whose safe level was HIGH is LOW, ATTN is released, no command is taken. -/
theorem test_outputs_during_a_hard_reset :
    after (.hardReset .asserted (Vector.replicate 5 .low) { lr1 := .low, lr0 := .low, auto := .high })
      ((station.setChans (Vector.replicate 16 { ChannelRecord.initial with active := holdProgram .high })).setNotes
        { flags := 1, enable := 2047 })
      (fun t => (pinLevel t 3, attn t, carriesCommand t, t.ctl.number)) = some (.low, false, false, 5) := by decide
/-- R166: SDO is not driven without a transaction; then the code of READ STATUS, 18, its first bits 0, 0, 0, 1. -/
theorem test_sdo_bits :
    let s := station.setPort { stored := { code := 18, status := .ok, results := [] }, transaction := some .live }
    [sdo station 3, sdo s 0, sdo s 3, sdo s 6, sdo s 7, sdo s 400] =
      [none, some false, some true, some true, some false, some false] := by decide
/-- R116: a COMMIT withdrawn as its last stop bit completes leaves the line driven dominant. -/
theorem test_withdrawn_at_the_last_stop_bit :
    let commit := ownSends none (.commit { proposer := 5, seq := 1 })
    let s := (sender commit commit [commit] (proposing (proposal .committing none) [commit] station)).setTime
      { station.time with now := 1010000 }
    let u := s.setClock { s.clock with osc := 160 }
    after .proposerEpoch u (fun t => (t.line.attempt, ltxDominant t, t.line.queue)) = some (none, true, []) := by decide
/-- R116: an attempt aborted 45 half microseconds after its start edge, in its third character of 20, is driven dominant to 60. -/
theorem test_drive_ends_with_the_character :
    let s := sender (ownSends none (.sync 0)) (ownSends none (.sync 0)) [] station
    after (.restart []) (s.setClock { s.clock with osc := 45 }) (fun t => (t.line.driveUntil,
      ltxDominant (t.setClock { t.clock with osc := 59 }), ltxDominant (t.setClock { t.clock with osc := 60 }))) =
        some (some 60, true, false) := by decide
/-- R73: the ninth entry pushes the oldest of eight out, and the other seven stay. -/
theorem test_ninth_entry_of_the_log :
    let old (n : BitVec 8) : LogEntry :=
      { set := { proposer := 5, seq := n }, epoch := 0, abort := none, targets := [], selfResult := none }
    after (.submit []) ((drafting [5]).setProp { (drafting [5]).prop with log := [2, 3, 4, 5, 6, 7, 8, 9].map old })
      (fun t => t.prop.log.map (·.set.seq)) = some [3, 4, 5, 6, 7, 8, 9, 1] := by decide
theorem test_own_number_faults :
    after (.ownNumberFrame .presence) listener (fun t => (t.ctl.state, t.notes.flags)) = some (.faulted, 1) := by decide
theorem test_mute_after_sixteen :
    after .bitError ((sender (ownSends none (.sync 0)) (ownSends none (.sync 0)) [] station).setLine
      { (sender (ownSends none (.sync 0)) (ownSends none (.sync 0)) [] station).line with failures := 15 })
      (fun t => (t.line.failures, t.line.mute, t.line.counters.mutes, t.notes.flags)) = some (16, some 0, 1, 2) := by decide
theorem test_step_takes_the_front :
    (match step (State.reset.setPending [.start [], .readTime []]) with
     | .next t => (t.ctl.state, t.pending)
     | _ => (.config, [])) = (.joining, [.readTime []]) := by decide

/-! ### A state that meets the hypotheses of each statement, clause by clause -/

theorem witness_StepRunsTheFrontCommand :
    (State.reset.setPending [.gapEnd, .nop []]).pending = [.gapEnd, .nop []] := rfl

theorem witness_IdleStepTakesADueActOrTicks :
    (State.reset.pending = [] ∧ dueActs State.reset = []) ∧
    dueActs (station.setTime { station.time with syncTimer := some 100000 }) = [.event .syncTimerExpiry] ∧
    dueActs (station.setClock { station.clock with microDue := true }) = [.micro] ∧
    (dueActs ((station.setClock { station.clock with microDue := true }).setTime
      { station.time with syncTimer := some 100000 })).length = 2 ∧
    dueActs (station.setLine { station.line with observed := some (.gap 0), since := 10000 - 24 }) = [.event .gapEnd] ∧
    dueActs (station.setLine { station.line with queue := [ownSends none (.presence .unlocked 0 0 false)] }) =
      [.event .attemptStart] := by decide

theorem witness_HardResetLeavesTheResetValues :
    let sa : Vector Level 5 := #v[.high, .low, .high, .low, .high]
    let mode : ModePins := { lr1 := .high, lr0 := .low, auto := .low }
    (21 : Station).val = 16 * sa[4].code + 8 * sa[3].code + 4 * sa[2].code + 2 * sa[1].code + sa[0].code ∧
      LineRate.m1.code = 2 * mode.lr1.code + mode.lr0.code ∧
      (State.reset.setCtl { State.reset.ctl with resetting := true }).ctl.resetting = true := by decide

theorem witness_StartMakesTheStationJoining :
    (State.reset.ctl.state = .config ∧ carriesCommand State.reset = true) ∧
    ∃ t, exec (.hardReset .released (Vector.replicate 5 .high) { lr1 := .high, lr0 := .low, auto := .low }) State.reset =
      .next t := ⟨by decide, _, rfl⟩

theorem witness_RestartKeepsTheConfigurationAlone : carriesCommand station = true := by decide

theorem witness_NopChangesTheResponseAlone : carriesCommand State.reset = true := by decide

theorem witness_PortRefusesUnknownCodesAndWrongLengths :
    carriesCommand State.reset = true ∧ argumentLengths[(19 : Byte).toNat]? ≠ some 0 ∧
      argumentLengths[(18 : Byte).toNat]? ≠ some 1 ∧ argumentLengths[(0 : Byte).toNat]? ≠ some 1 ∧
      argumentLengths[(255 : Byte).toNat]? ≠ some 0 := by decide

theorem witness_TransactionsCarryCommandsOnlyWhole :
    carriesCommand State.reset = true ∧
    State.reset.port.transaction = none ∧
    (State.reset.setPort { State.reset.port with transaction := some .spoiled }).port.transaction = some .spoiled ∧
    (State.reset.setPort { State.reset.port with transaction := some .live }).port.transaction ≠ none ∧
    (State.reset.setCtl { State.reset.ctl with resetting := true }).ctl.resetting = true ∧
    ∃ t, exec (.hardReset .asserted (Vector.replicate 5 .low) { lr1 := .low, lr0 := .low, auto := .high }) (State.reset.setPort { State.reset.port with transaction := some .live }) = .next t :=
  ⟨by decide, by decide, by decide, by decide, by decide, _, rfl⟩

theorem witness_ConfigurationCommands :
    (carriesCommand State.reset = true ∧ State.reset.ctl.state = .config) ∧
    (carriesCommand station = true ∧ station.ctl.state ≠ .config) ∧ 15 < (16 : Byte).toNat ∧ 1 < (2 : Byte).toNat ∧
    7 < (8 : Byte).toNat ∧ 3 < (4 : Byte).toNat := by decide

theorem witness_OpenSetByPhase : carriesCommand station = true := by decide

theorem witness_AddItemChecksInOrder :
    (carriesCommand station = true ∧ ∀ d, station.prop.activity ≠ .drafting d) ∧
    ((drafting [7]).prop.activity = .drafting { epoch := 1010000, items := [draftItem 7] } ∧ 31 < (32 : Byte).toNat ∧
      ¬ validItem { item3 with channel := 16 } ∧ validItem item3 ∧
      (∃ x ∈ [draftItem 7], x.target = 7 ∧ x.item.channel = item3.channel) ∧
      (∀ x ∈ [draftItem 7], ¬ (x.target = 31 ∧ x.item.channel = item3.channel)) ∧ [draftItem 7].length < 32 ∧
      (31 : Station) ≠ 5 ∧
      otherTargetCount 5 [draftItem 7] < 8) ∧
    otherTargetCount 5 ([0, 1, 2, 3, 4, 6, 7, 8].map draftItem) = 8 ∧
    (∀ x ∈ ([0, 1, 2, 3, 4, 6, 7, 8] : List Station).map draftItem, ¬ (x.target = 9 ∧ x.item.channel = item3.channel)) ∧
    (List.replicate 32 (draftItem 7)).length = 32 ∧ [draftItem 5, draftItem 7].Pairwise draftOrder :=
  ⟨⟨by decide, fun _ h => (nomatch h)⟩, by decide, by decide, by decide, by decide, by decide⟩

theorem witness_SubmitRefusedByTheFirstFailingTest :
    (carriesCommand station = true ∧ ∀ d, station.prop.activity ≠ .drafting d) ∧
    [drafting [9], drafting [], (drafting [7]).setTime { station.time with lock := .holdover },
        (drafting [7]).setMemb { station.memb with announced := false },
        (drafting [7]).setTime { station.time with now := 1010000 - 4095 },
        (drafting [7]).setTime { station.time with now := 1010000 - 2147483649 },
        (drafting [7]).setMemb { station.memb with entries := station.memb.entries.set 7 { peer with slots := some 0 } }].map
      (fun s => match s.prop.activity with
        | .drafting d => ((submitChecks s d).find? (fun x => !x.1)).map (·.2)
        | _ => none) =
      [some .targetAbsent, some .badArgument, some .notLocked, some .badState, some .late, some .far, some .noRoom] :=
  ⟨⟨by decide, fun _ h => (nomatch h)⟩, by decide⟩

theorem witness_SubmitOpensTheProposal :
    let set : SetId := { proposer := 5, seq := 1 }
    let both : Draft := { epoch := 1010000, items := [draftItem 5, draftItem 7] }
    carriesCommand (drafting [5, 7]) = true ∧ (submitChecks (drafting [5, 7]) both).all (·.1) = true ∧
    (∃ x ∈ both.items, x.target ≠ (drafting [5, 7]).ctl.number) ∧ itemsFor 5 both ≠ [] ∧
    (drafting [5, 7]).part.table[(0 : Fin 4)] = none ∧ (∀ j : Fin 4, j < 0 → (drafting [5, 7]).part.table[j] ≠ none) ∧
    itemsFor 5 { both with items := [draftItem 7] } = [] ∧ noRecord (drafting [5, 7]) set ∧
    (let s := holding { record .armed 1010000 with set := set, self := true } (drafting [5])
     let own : Draft := { epoch := 1010000, items := [draftItem 5] }
     carriesCommand s = true ∧ s.prop.activity = .drafting own ∧ (submitChecks s own).all (·.1) = true ∧
       (∀ x ∈ own.items, x.target = s.ctl.number) ∧ ¬ noRecord s set ∧ noSelfRecord s set ∧ ¬ closedFor s set .noRoom) := by
  decide

theorem witness_SelfOnlySubmitDecidesAtOnce :
    let own : Draft := { epoch := 1010000, items := [draftItem 5] }
    carriesCommand (drafting [5]) = true ∧ (submitChecks (drafting [5]) own).all (·.1) = true ∧
    (∀ x ∈ own.items, x.target = (drafting [5]).ctl.number) ∧ noRecord (drafting [5]) { proposer := 5, seq := 1 } ∧
    (∀ f ∈ ((drafting [5]).setLine { (drafting [5]).line with queue := [ownSends (some 7) (.inquire set7)] }).line.queue,
      isInquireFor { proposer := 5, seq := 1 } f = false) ∧
    (drafting [5]).part.claims[(3 : Fin 16)].isSome = false ∧
    (holding (record .voted 1010000) (drafting [5])).part.claims[(3 : Fin 16)].isSome = true := by decide

theorem witness_WithdrawByPhase :
    (carriesCommand station = true ∧ station.prop.activity = .idle) ∧
    (∃ d, (drafting [7]).prop.activity = .drafting d) ∧
    (proposing (proposal .voting none) [] station).prop.activity = .active (proposal .voting none) ∧
    (proposing (proposal .staging none) [ownSends (some 7) (.stage set7 [item3])] station).line.queue.countP
      isProposalFrame ≤ 1 ∧ (proposal .calling none).phase = .calling ∧
    ((proposing (proposal .staging none) [ownSends (some 7) (.stage set7 [item3])] station).line.queue.filter
      (!isProposalFrame ·)).length < 12 ∧
    ∀ f ∈ (proposing (proposal .staging none) [ownSends (some 7) (.stage set7 [item3])] station).line.queue,
      isInquireFor (proposal .staging none).set f = false :=
  ⟨by decide, ⟨_, rfl⟩, rfl, by decide, rfl, by decide, by decide⟩

theorem witness_TimeStatusAndMemberReads :
    carriesCommand station = true ∧ station.memb.entries[(5 : Station)] = { MemberEntry.initial with state := .self } ∧
    (station.memb.entries[(7 : Station)] = peer ∧ peer.state ≠ .self) ∧ 31 < (32 : Byte).toNat := by decide

/-- An entry of the decision log: set 1 of station 5, committed, with station 7 READY. -/
def logged : LogEntry :=
  { set := { proposer := 5, seq := 1 }, epoch := 1010000, abort := none,
    targets := [{ station := 7, count := 1, result := .ready }], selfResult := none }

/-- A station that holds that entry. -/
def logging (r : TargetResult) (s : State) : State :=
  s.setProp { s.prop with log := [{ logged with targets := [{ station := 7, count := 1, result := r }] }] }

theorem witness_ChannelSetAndOutcomeReads :
    carriesCommand station = true ∧ 15 < (16 : Byte).toNat ∧ station.part.table[(3 : Fin 4)] = none ∧
    (holding (record .voted 1010000) station).part.table[(0 : Fin 4)] = some (record .voted 1010000) ∧
    3 < (4 : Byte).toNat ∧ ((logging .ready station).prop.log.reverse[(0 : Byte).toNat]? = some logged) ∧
    (logging .ready station).prop.log.length ≤ (1 : Byte).toNat ∧ (7 : Byte).toNat ≤ 7 ∧ 7 < (8 : Byte).toNat := by
  decide

/-- A capture record. -/
def captured : CaptureRecord := { input := 0, edge := .rising, time := 5, quality := .locked, lostBefore := 0 }

theorem witness_ReadNoticeAndReadCapture :
    (carriesCommand station = true ∧ ∀ m : Notice, (isPending m station && isEnabled m station) = false) ∧
    (let s := station.setNotes { station.notes with flags := 8 }
     isPending .step s = true ∧ isEnabled .step s = true ∧
       ∀ m : Notice, m.code < Notice.step.code → (isPending m s && isEnabled m s) = false) ∧
    (let s := station.setCapt { station.capt with queue := [captured] }
     isPending .capture s = true ∧ isEnabled .capture s = true ∧ s.capt.queue = [captured] ∧
       ∀ m : Notice, m.code < Notice.capture.code → (isPending m s && isEnabled m s) = false) ∧
    station.capt.queue = [] ∧ station.ctl.resetting = false ∧ Notice.captureLost ≠ .capture := by
  refine ⟨⟨by decide, ?_⟩, ⟨by decide, by decide, ?_⟩, ⟨by decide, by decide, rfl, ?_⟩, rfl, by decide⟩ <;> intro m <;>
    cases m <;> decide

theorem witness_ObservedLineFollowsTheEvents :
    (station.line.observed = some .idle ∧ station.ctl.state = .member) ∧
    ((station.setCtl { station.ctl with state := .faulted }).line.observed = some .idle) ∧
    (station.setLine { station.line with observed := some (.gap 0) }).line.observed = some (.gap 0) ∧
    (station.setLine { station.line with observed := some .brk }).line.observed = some .brk ∧
    inReception listener ∧ (station.ctl.state ≠ .config ∧ station.line.attempt = none) := by
  unfold inReception; decide

theorem witness_DiscardedFramesCountAlone :
    (inReception listener ∧ listener.ctl.state = .member) ∧
    inReception (listener.setCtl { listener.ctl with state := .faulted }) ∧
    (Body.commit { proposer := 7, seq := 0 }).formed 7 = false ∧
    ((none : Option Station).isNone == (Body.commit { proposer := 7, seq := 0 }).kind.broadcast) = true := by
  unfold inReception; decide

theorem witness_StationFilterByState :
    (inReception (listener.setCtl { listener.ctl with state := .joining }) ∧
      Frame.formed { src := 7, dest := none, body := .commit set7 } = true ∧ (Body.commit set7).kind ≠ .sync) ∧
    inReception (listener.setCtl { listener.ctl with state := .faulted }) := by
  unfold inReception; decide

theorem witness_OwnNumberMakesTheStationFaulted :
    (inReception listener ∧ listener.ctl.state = .member) ∧
    (inReception (listener.setCtl { listener.ctl with state := .joining }) ∧ FrameKind.sync = .sync) ∧
    Frame.formed { src := 5, dest := none, body := .sync 0 } = true := by
  unfold inReception; decide

theorem witness_SyncWithinTheSlewLimit :
    memberReceives listener 7 ∧ listener.time.sample = some 999000 ∧ listener.time.ownSync = false ∧
    sdiff ((999020 : NetTime) + BitVec.ofNat 48 listener.time.trim.val) 999000 = 20 ∧
    sdiff ((998980 : NetTime) + BitVec.ofNat 48 listener.time.trim.val) 999000 = -20 ∧
    sdiff ((999000 : NetTime) + BitVec.ofNat 48 listener.time.trim.val) 999000 = 0 ∧
    (let s := (listener.setCtl { listener.ctl with state := .joining }).setTime { listener.time with lock := .unlocked }
     s.ctl.state = .joining ∧ s.time.lock = .unlocked ∧ inReception s ∧ (7 : Station) ≠ s.ctl.number ∧
       s.time.sample = some 999000) ∧
    (let s := (listener.setTime { listener.time with ownSync := true }).setLine
       { listener.line with queue := [ownSends none (.sync 0)] }
     memberReceives s 7 ∧ s.time.ownSync = true ∧ s.line.queue.any isSync = true) := by
  unfold memberReceives inReception; decide

theorem witness_SyncBeyondTheSlewLimitSteps :
    memberReceives listener 7 ∧ listener.time.sample = some 999000 ∧ listener.time.ownSync = false ∧
    (∀ (i : Fin 4) (r : SetRecord), listener.part.table[i] = some r → r.epoch = none) ∧
    (∀ c : Fin 16, listener.chans[c].pending = none) ∧ (∀ p, listener.prop.activity ≠ .active p) ∧
    sdiff ((999021 : NetTime) + BitVec.ofNat 48 listener.time.trim.val) 999000 = 21 ∧
    sdiff ((998979 : NetTime) + BitVec.ofNat 48 listener.time.trim.val) 999000 = -21 ∧
    (listener.setCtl { listener.ctl with state := .joining }).ctl.state = .joining ∧
    (listener.setTime { listener.time with ownSync := true }).time.ownSync = true := by
  refine ⟨by unfold memberReceives inReception; decide, rfl, rfl, ?_, by decide, fun _ h => (nomatch h), by decide, by decide,
    rfl, rfl⟩
  intro i r h
  have e : ∀ j : Fin 4, listener.part.table[j] = none := by decide
  rw [e i] at h
  cases h

/-- A pending swap of station 7's set, due at a boundary. -/
def waiting (boundary : NetTime) (s : State) : State :=
  (s.setChans (s.chans.set 4
    { s.chans[4] with pending := some { program := holdProgram .high, boundary := boundary, set := set7 } })).setPart
      { s.part with claims := s.part.claims.set 4 (some set7) }

/-- A record that holds one item for channel 3 is sound. -/
theorem record_sound (state : RecordState) (epoch : NetTime) : RecordSound (record state epoch) := by
  cases state <;> simp [RecordSound, record, ItemsSound, Config.inquiryLimit] <;> decide

/-- A table with that record at position 0 alone is sound, without a draft. -/
theorem holding_store (r : SetRecord) (s : State) (hr : RecordSound r) (hs : r.self = false) (hp : r.set.proposer ≠ s.ctl.number)
    (ht : s.part.table = Vector.replicate 4 none) (hl : r.items.length ≤ 32) (hd : ∀ d, s.prop.activity ≠ .drafting d) :
    StoreSound (holding r s) := by
  have h0 : (holding r s).part.table = (Vector.replicate 4 none).set 0 (some r) := by simp [holding, ht, State.setPart]
  refine ⟨?_, ?_, ?_, ?_⟩
  · intro i
    rw [h0]
    fin_cases i
    · exact ⟨hr, by simp [hs]; exact hp⟩
    all_goals trivial
  · intro i j hij
    rw [h0]
    fin_cases i <;> fin_cases j <;> first | exact absurd rfl hij | trivial
  · simp [itemsHeld, h0, Config.storeSlots, List.finRange_succ, hl]
  · unfold DraftingSound
    have : (holding r s).prop = s.prop := rfl
    rw [this]
    split
    · rename_i d h; exact absurd h (hd d)
    · trivial

/-- A self record of the open proposal. -/
def selfRecord (state : RecordState) : SetRecord :=
  { record state 1010000 with set := { proposer := 5, seq := 1 }, timer := none, self := true }

/-- The listener with an open proposal for the epoch 1,000,700, a record and a waiting swap, and a step of 1,000 ahead. -/
def overtaking (p : Proposal) (r : SetRecord) : State :=
  holding r (waiting 1000600 (proposing { p with epoch := 1000700 } [] listener))

/-- The same, COMMITTING, with the record of a state. -/
def overtaken (state : RecordState) : State := overtaking (proposal .committing none) (record state 1000500)

theorem overtaken_sound (state : RecordState) :
    ClaimsSound (overtaken state) ∧ (overtaken state).part.table[(0 : Fin 4)] = some (record state 1000500) := by
  cases state <;> (unfold ClaimsSound ClaimSound; decide)

/-- An ARMED record for 1,000,500 whose item waits for the end of a running PULSE of channel 3, which began at 1,000,000. -/
def overBoundary (width : BitVec 24) : State :=
  let p : Program :=
    { mode := .pulse, start := 0, period := 0, width := width, count := 0, active := .high, rest := .low }
  let s := overtaking { proposal .aborting none with callSent := true }
    { record .armed 1000500 with items := [{ item3 with load := .atBoundary }] }
  s.setChans (s.chans.set 3 { s.chans[3] with active := p, anchor := 1000000 })

/-- O25's premises, with a record at each side of its epoch, a swap that is due, and the proposal in each phase that ends; an
AT_EPOCH item, and AT_BOUNDARY items whose boundaries lie behind and ahead of the new time. -/
theorem witness_StepMeetsWhatItPasses :
    ClaimsSound (overtaken .armed) ∧ StoreSound (overtaken .armed) ∧ StoreSound (overtaken .voted) ∧
    memberReceives (overtaken .armed) 7 ∧ (overtaken .armed).time.sample = some 999000 ∧
    sdiff ((1000000 : NetTime) + BitVec.ofNat 48 (overtaken .armed).time.trim.val) 999000 = 1000 ∧
    (overtaken .armed).time.now + BitVec.ofInt 48 1000 = 1001000 ∧ recordMet 1001000 (record .armed 1000500) ∧
    recordMet 1001000 (record .voted 1000500) ∧ ¬ recordMet 1001000 (record .voted 1001001) ∧
    (endsPhase 1001000 { proposal .committing none with epoch := 1000700 } ∧
      endsPhase 1001000 { proposal .calling none with epoch := 1001000 } ∧
      endsPhase 1001000 { proposal .aborting none with epoch := 1000700, callSent := true } ∧
      ¬ endsPhase 1001000 { proposal .aborting none with epoch := 1000700 } ∧
      (proposal .aborting none).abortReason = some .late) ∧
    ((overtaken .armed).chans[(4 : Fin 16)].pending =
        some { program := holdProgram .high, boundary := 1000600, set := set7 } ∧
      0 ≤ sdiff 1001000 (1000600 : NetTime)) ∧
    ((record .armed 1000500).items.find? (onChannel 3) = some item3 ∧ item3.load = .atEpoch) ∧
    (ClaimsSound (overBoundary 1000) ∧ StoreSound (overBoundary 1000) ∧ ClaimsSound (overBoundary 1001) ∧
      boundaryOf (overBoundary 1000).chans[(3 : Fin 16)].active (overBoundary 1000).chans[(3 : Fin 16)].anchor 1000500 =
        1001000 ∧
      boundaryOf (overBoundary 1001).chans[(3 : Fin 16)].active (overBoundary 1001).chans[(3 : Fin 16)].anchor 1000500 =
        1001001) ∧
    goesWithProposal 1001000 (overtaking (proposal .staging none) (selfRecord .staging)) (selfRecord .staging) ∧
    ((asksFor [set7] (overtaken .voted)).line.queue.countP isSync ≤ 1 ∧
      (∀ set, (asksFor [set7] (overtaken .voted)).line.queue.countP (isInquireFor set) ≤ 1) ∧
      outstandingFrame (overtaken .voted) = none) := by
  have hs (state : RecordState) : StoreSound (overtaken state) :=
    holding_store (record state 1000500) _ (record_sound _ _) rfl (by cases state <;> decide) rfl (by simp [record])
      (fun _ h => nomatch h)
  have hb : StoreSound (overBoundary 1000) := by
    refine holding_store _ (waiting 1000600 (proposing _ [] listener)) ?_ rfl (by decide) rfl (by decide) (fun _ h => nomatch h)
    simp [RecordSound, record, ItemsSound, Config.inquiryLimit]; decide
  have met (state : RecordState) (h : state ≠ .staging) : recordMet 1001000 (record state 1000500) :=
    ⟨h, 1000500, if_neg h, by decide⟩
  refine ⟨(overtaken_sound .armed).1, hs .armed, hs .voted, by unfold memberReceives inReception; decide, by decide, by decide,
    by decide, met _ (by decide), met _ (by decide), ?_, by unfold endsPhase; decide, by decide, by decide,
    ⟨by unfold ClaimsSound ClaimSound; decide, hb, by unfold ClaimsSound ClaimSound; decide, by decide, by decide⟩,
    ⟨rfl, by decide, _, rfl, by decide, by unfold endsPhase; decide⟩, by decide, fun _ => List.countP_le_length, rfl⟩
  rintro ⟨_, e, he, h⟩
  cases he
  exact absurd h (by decide)

/-- A station that has closed a set. -/
def closing (set : SetId) (kind : ClosureKind) (s : State) : State :=
  s.setPart { s.part with closed := [{ set := set, kind := kind, missedSent := false }] }

theorem witness_StageByWhatItsSetFinds :
    memberReceives listener 7 ∧ (Body.stage set7 [item3]).formed 7 = true ∧ (6 : Station) ≠ listener.ctl.number ∧
    (Body.stage { proposer := 8, seq := 3 } [item3]).formed 7 = true ∧
    isRecord (holding (record .staging 0) listener) set7 0 (record .staging 0) ∧
    isRecord (holding (record .voted 1010000) listener) set7 0 (record .voted 1010000) ∧ noRecord listener set7 ∧
    closedFor (closing set7 .noRoom listener) set7 .noRoom ∧
    (closedFor (closing set7 .expired listener) set7 .expired ∧ ¬ closedFor (closing set7 .expired listener) set7 .noRoom) ∧
    (¬ closedFor listener set7 .noRoom ∧ ¬ closedFor listener set7 .expired ∧
      listener.part.table[(0 : Fin 4)] = none ∧ ∀ j : Fin 4, j < 0 → listener.part.table[j] ≠ none) ∧
    ∀ i : Fin 4, (listener.setPart { listener.part with
      table := Vector.replicate 4 (some { record .staging 0 with set := { proposer := 8, seq := 1 } }) }).part.table[i] ≠ none := by
  unfold memberReceives inReception; decide

theorem witness_StagedItemsOneAtATime :
    ¬ validItem { item3 with channel := 16 } ∧
    (validItem item3 ∧ ∃ x ∈ (record .staging 0).items, x.channel = item3.channel) ∧
    (validItem { item3 with channel := 15 } ∧
      (∀ x ∈ (record .staging 0).items, x.channel ≠ ({ item3 with channel := 15 } : Item).channel) ∧ 0 < 1 ∧
      ItemsSound (record .staging 0).items) := by
  unfold ItemsSound; decide

theorem witness_CallVotesReady :
    memberReceives (holding (record .staging 0) listener) 7 ∧
    (Body.call set7 1010000 [entry 9 2, entry 5 1]).formed 7 = true ∧
    [entry 9 2, entry 5 1][1]?.map (fun e => (e.station, e.count.toNat)) = some (5, 1) ∧
    isRecord (holding (record .staging 0) listener) set7 0 (record .staging 0) ∧ (record .staging 0).state = .staging ∧
    (voteTests (holding (record .staging 0) listener) (record .staging 0) 1 1010000).all (·.1) = true ∧
    (voteTests (holding (record .staging 0) listener) (record .staging 0) 1 1001024).all (·.1) = true ∧
    (voteTests (holding (record .staging 0) listener) (record .staging 0) 1 (1000000 + 2147483648)).all (·.1) = true := by
  unfold memberReceives inReception; decide

theorem witness_CallRefused :
    memberReceives listener 7 ∧ (Body.call set7 1010000 [entry 5 1]).formed 7 = true ∧
    (Body.call { proposer := 8, seq := 3 } 1010000 [entry 5 1]).formed 7 = true ∧
    ((Body.call set7 1010000 [entry 9 1]).formed 7 = true ∧ ∀ e ∈ [entry 9 1], e.station ≠ listener.ctl.number) ∧
    [entry 5 1][0]?.map (fun e => (e.station, e.count.toNat)) = some (5, 1) ∧ noRecord listener set7 ∧
    isRecord (holding (record .armed 1010000) listener) set7 0 (record .armed 1010000) ∧
    (let s := holding (record .staging 0) listener
     isRecord s set7 0 (record .staging 0) ∧
       s.line.queue.any (isInquireFor set7) = false ∧
       [(1, 1001023), (1, 1000000 + 2147483649), (2, 1010000)].map (fun x : Nat × NetTime =>
         ((voteTests s (record .staging 0) x.1 x.2).find? (fun y => !y.1)).map (·.2)) =
           [some .late, some .far, some .incomplete]) := by
  unfold memberReceives inReception; decide

theorem witness_DecisionsOnAVotedRecord :
    (let s := holding (record .voted 1000001) listener
     memberReceives s 7 ∧ set7.seq ≠ 0 ∧ isRecord s set7 0 (record .voted 1000001) ∧ (record .voted 1000001).epoch = some 1000001 ∧
       sdiff s.time.now 1000001 < 0 ∧ s.line.queue.countP (isInquireFor set7) ≤ 1 ∧ outstandingFrame s = none) ∧
    (record .inDoubt 1000001).state = .inDoubt ∧
    (let s := asksFor [set7] (holding (record .inDoubt 1000001) listener)
     s.line.queue.countP (isInquireFor set7) = 1 ∧ outstandingFrame s = none) := by
  unfold memberReceives inReception; decide

theorem witness_DecisionsOnOtherRecords :
    memberReceives listener 7 ∧ set7.seq ≠ 0 ∧ ({ proposer := 8, seq := 3 } : SetId).proposer ≠ 7 ∧
    (6 : Station) ≠ listener.ctl.number ∧ isRecord (holding (record .armed 1010000) listener) set7 0 (record .armed 1010000) ∧
    (isRecord (holding (record .staging 0) listener) set7 0 (record .staging 0) ∧
      (holding (record .staging 0) listener).line.queue.any (isInquireFor set7) = false) ∧
    noRecord listener set7 ∧ DecisionOutcome.aborted ≠ .committed ∧
    ∀ e ∈ (closing set7 .noRoom listener).part.closed, e.set = set7 → e.kind = .noRoom := by
  unfold memberReceives inReception; decide

theorem witness_LateCommitIsAnsweredWithMissed :
    memberReceives (closing set7 .expired listener) 7 ∧ set7.seq ≠ 0 ∧
    noRecord (closing set7 .expired listener) set7 ∧
    (∃ e ∈ (closing set7 .expired listener).part.closed, e.set = set7 ∧ e.kind = .expired ∧ e.missedSent = false) ∧
    (∀ e ∈ (closing set7 .noRoom listener).part.closed, e.set = set7 → e.kind = .expired → e.missedSent = true) ∧
    (let s := holding (record .voted 1000000) listener
     memberReceives s 7 ∧ isRecord s set7 0 (record .voted 1000000) ∧
       (record .voted 1000000).self = false ∧ (record .voted 1000000).epoch = some 1000000 ∧
       0 ≤ sdiff s.time.now 1000000 ∧ s.line.queue.length < 12 ∧
       (asksFor [set7] s).line.queue.countP (isInquireFor set7) ≤ 1) := by
  unfold memberReceives inReception; decide

/-- A station whose CALL has a reply window that opened at 5,000. -/
def asking : State :=
  proposing { proposal .voting none with windowStart := some 5000, windowEnd := some 5256 } []
    (listener.setLine { listener.line with frameStart := some 5000 })

theorem witness_ReplySetsItsTargetsResult :
    memberReceives asking 7 ∧ ({ proposer := 5, seq := 1 } : SetId).seq ≠ 0 ∧ (32 : Byte).toNat ≤ 32 ∧
    (6 : Station) ≠ asking.ctl.number ∧
    asking.prop.activity = .active { proposal .voting none with windowStart := some 5000, windowEnd := some 5256 } ∧
    (proposal .voting none).targets[0]? = some { station := 7, count := 1, result := .pending } ∧
    asking.line.frameStart = some 5000 ∧ 5000 + 128 * 0 * bitTime asking.ctl.rate ≤ 5000 ∧
    5000 < 5000 + 128 * (0 + 1) * bitTime asking.ctl.rate ∧
    (5000 + 128 * (0 + 1) * bitTime asking.ctl.rate ≤ 5256 ∧ (proposal .calling none).phase ≠ .voting) := by
  unfold memberReceives inReception; decide

theorem witness_InquireAndMissedMeetTheLog :
    (memberReceives (logging .ready listener) 7 ∧ logged.set.seq ≠ 0 ∧ logged.set.proposer = listener.ctl.number ∧
      ((logging .ready listener).prop.log.map (·.set)).Nodup ∧ logged ∈ (logging .ready listener).prop.log) ∧
    (6 : Station) ≠ listener.ctl.number ∧ set7.proposer ≠ listener.ctl.number ∧ memberReceives asking 7 ∧
    asking.prop.activity = .active { proposal .voting none with windowStart := some 5000, windowEnd := some 5256 } ∧
    (logging .ready listener).prop.log.find? (fun x => x.set == logged.set) = some logged ∧
    (∀ e ∈ (logging .ready listener).prop.log, e.set ≠ { proposer := 5, seq := 255 }) ∧
    logged.targets.find? (fun y => y.station == 7) = some { station := 7, count := 1, result := .ready } ∧
    (∀ x ∈ logged.targets, x.station ≠ 8) ∧ TargetResult.noReply ≠ .ready ∧ TargetResult.noReply ≠ .missed := by
  unfold memberReceives inReception; decide

theorem witness_PresenceReportsAndJoinPurges :
    memberReceives (overtaken .armed) 7 ∧ (4 : Byte).toNat ≤ 4 ∧ (32 : Byte).toNat ≤ 32 ∧ ClaimsSound (overtaken .armed) ∧
    (∃ i : Fin 4, (overtaken .armed).part.table[i].any (fun r => r.set.proposer == 7) = true) ∧
    ((∀ set, (asksFor [set7] (overtaken .inDoubt)).line.queue.countP (isInquireFor set) ≤ 1) ∧
      memberReceives (asksFor [set7] (overtaken .inDoubt)) 7 ∧ outstandingFrame (overtaken .inDoubt) = none) :=
  ⟨by unfold memberReceives inReception; decide, by decide, by decide, (overtaken_sound .armed).1, ⟨0, by decide⟩,
    fun _ => List.countP_le_length, by unfold memberReceives inReception; decide, rfl⟩

/-- This station's PRESENCE. -/
def ownPresence : Frame := ownSends none (.presence .unlocked 0 0 false)

theorem witness_AttemptStartsUnderItsConditions :
    let s := station.setLine { station.line with queue := [ownPresence], reservation := some 10000 }
    s.line.queue = ownPresence :: [] ∧ s.ctl.state = .member ∧ s.line.mute = none ∧
      s.line.reservation = some 10000 ∧ (10000 : Nat) ≤ s.clock.osc ∧ s.line.attempt = none ∧
      s.line.observed = some .idle ∧ (s.clock.osc - s.line.since) % bitTime s.ctl.rate = 0 ∧
      (s.setCtl { s.ctl with state := .faulted }).ctl.state ≠ .member ∧
      (s.ctl.resetting = false ∧ s.line.driveUntil = none) ∧
      (s.setLine { s.line with driveUntil := some 10001 }).line.driveUntil = some 10001 ∧
      ((encodeFrame ownPresence)[(10000 - 9990) / bitTime .m1 / 10]? = some 101 ∧ (10000 - 9990) / bitTime .m1 % 10 = 5 ∧
        (101 : Byte).getLsbD (8 - 5) = false ∧ (encodeFrame ownPresence)[(10000 - 0) / bitTime .m1 / 10]? = none) := by decide

theorem witness_AttemptsEndByLossOrFailure :
    let s := sender ownPresence ownPresence [ownPresence] (station.setClock { station.clock with osc := 17 })
    s.line.attempt = some { reply := false, entry := ownPresence, sent := ownPresence, start := 0 } ∧
      (BitVec.ofNat 8 ownPresence.arbitration).getLsbD (7 - (1 : Fin 8).val) = true ∧
      (s.clock.osc - 0) / bitTime s.ctl.rate < 9 ∧ s.line.failures < 15 ∧
      (s.setLine { s.line with failures := 15 }).line.failures = 15 ∧ s.ctl.state ≠ .config ∧
      s.line.observed ≠ some .brk := by decide

/-- A REPLY of this station, waiting for its slot. -/
def ownReply : Frame := ownSends (some 7) (.reply set7 .ready 32)

theorem witness_MutesReservationsAndReplySlots :
    let s := station.setLine
      { station.line with mute := some 100000, reservation := some 10000, replies := [{ frame := ownReply, start := 10000 }] }
    s.line.mute = some 100000 ∧ s.line.reservation = some 10000 ∧
      s.line.replies = { frame := ownReply, start := 10000 } :: [] ∧ s.clock.osc = 10000 ∧ ownReply.body.kind = .reply ∧
      (s.ctl.state = .member ∧ station.line.mute = none ∧ s.line.attempt = none ∧ s.line.observed = some .idle) ∧
      s.line.mute ≠ none ∧
      (let r (start : Instant) : PendingReply := { frame := ownReply, start := start }
       [r 10256, r 10000, r 10000] = [r 10256] ++ r 10000 :: [r 10000] ∧
         (∀ x ∈ [r 10256], s.clock.osc < x.start) ∧ ∀ x ∈ [r 10001], s.clock.osc < x.start) := by decide

/-- The characters that this station has sent since the start of the oscillator's count have had their time. -/
theorem sent_in_time (f : Frame) (queue : List Frame) (s : State) (hs : s.ctl.rate = .m1) (ho : s.clock.osc = 10000)
    (hl : (bodyBytes f.body).length ≤ 64) :
    sentNow (sender f f queue s) { reply := false, entry := f, sent := f, start := 0 } := by
  refine ⟨rfl, ?_⟩
  have h1 : (sender f f queue s).ctl.rate = .m1 := hs
  have h2 : (sender f f queue s).clock.osc = 10000 := ho
  rw [h1, h2]
  show 0 + 10 * (6 + (bodyBytes f.body).length) * 2 ≤ 10000
  omega

theorem witness_SyncPresenceAndReplySent :
    sentNow (sender ownPresence ownPresence [ownPresence] station)
        { reply := false, entry := ownPresence, sent := ownPresence, start := 0 } ∧
    (sender ownPresence ownPresence [ownPresence] station).line.observed = some .frame ∧
    (∀ p, (sender ownPresence ownPresence [ownPresence] station).prop.activity ≠ .active p) ∧
    ownPresence.body = .presence .unlocked 0 0 false ∧
    sentNow (sender (ownSends none (.sync 0)) (ownSends none (.sync 0)) [ownSends none (.sync 0)] station)
        { reply := false, entry := ownSends none (.sync 0), sent := ownSends none (.sync 0), start := 0 } ∧
    sentNow (sender (ownSends (some 7) (.inquire set7)) (ownSends (some 7) (.inquire set7)) [] station)
        { reply := false, entry := ownSends (some 7) (.inquire set7), sent := ownSends (some 7) (.inquire set7), start := 0 } ∧
    (let a : Attempt := { reply := true, entry := ownReply, sent := ownReply, start := 9800 }
     sentNow (station.setLine { station.line with attempt := some a, observed := some .frame }) a) ∧
    (let p := { proposal .staging none with
       outstanding := some { frame := ownSends (some 7) (.stage set7 [item3]), queued := false } }
     let s := sender ownPresence ownPresence (List.replicate 12 ownPresence) (proposing p [] station)
     sentNow s { reply := false, entry := ownPresence, sent := ownPresence, start := 0 } ∧ s.prop.activity = .active p ∧
       (s.line.queue.erase ownPresence).length < 12) :=
  ⟨sent_in_time _ _ _ rfl rfl (by decide), rfl, fun _ h => (nomatch h), rfl, sent_in_time _ _ _ rfl rfl (by decide),
    sent_in_time _ _ _ rfl rfl (by decide), by unfold sentNow; decide, sent_in_time _ _ _ rfl rfl (by decide), rfl,
    by decide⟩

/-- This station's STAGE, CALL, COMMIT and ABORT for its open proposal. -/
def ownStage : Frame := ownSends (some 7) (.stage { proposer := 5, seq := 1 } [item3])
def ownCall : Frame := ownSends none (.call { proposer := 5, seq := 1 } 1010000 [entry 7 1])
def ownCommit : Frame := ownSends none (.commit { proposer := 5, seq := 1 })
def ownAbort : Frame := ownSends none (.abort { proposer := 5, seq := 1 } .late)

/-- The station whose proposal's frame has just been sent. -/
def sentOf (p : Proposal) (f : Frame) : State := sender f f [f] (proposing p [f] station)

/-- The proposal with this station's own item beside station 7's. -/
def withSelf : Proposal := { proposal .staging none with selfIncluded := true, selfCount := 1 }

theorem witness_StageThenCallThenWindow :
    (let a : Attempt := { reply := false, entry := ownStage, sent := ownStage, start := 0 }
     let p := { proposal .staging none with items := [draftItem 7, draftItem 8] }
     sentNow (sentOf p ownStage) a ∧ (sentOf p ownStage).line.observed = some .frame ∧
       a.entry ∈ (sentOf p ownStage).line.queue ∧ (sentOf p ownStage).prop.activity = .active p ∧
       (sentOf p ownStage).line.queue.length ≤ 12 ∧ p.phase = .staging ∧
       isStageGroup (p.items.drop p.nextStage) [draftItem 7] ∧ isStageGroup (p.items.drop 1) [draftItem 8]) ∧
    (let p := proposal .staging none
     sentNow (sentOf p ownStage) { reply := false, entry := ownStage, sent := ownStage, start := 0 } ∧
       isStageGroup (p.items.drop p.nextStage) [draftItem 7] ∧ p.items.length ≤ p.nextStage + 1 ∧
       (sentOf p ownStage).line.queue.countP isProposalFrame ≤ 1 ∧
       (∀ f ∈ (sentOf p ownStage).line.queue, isInquireFor p.set f = false) ∧ p.selfIncluded = false ∧
       (∀ x ∈ p.targets, (sentOf p ownStage).memb.entries[x.station].state = .present) ∧
       ¬ (∀ x ∈ [({ station := 9, count := 1, result := .pending } : TargetEntry)],
         (sentOf p ownStage).memb.entries[x.station].state = .present) ∧
       ((4096 * bitTime (sentOf p ownStage).ctl.rate / 2 : Nat) : Int) ≤ sdiff p.epoch (sentOf p ownStage).time.now ∧
       ¬ ((4096 * bitTime (sentOf p ownStage).ctl.rate / 2 : Nat) : Int) ≤ sdiff 1004095 (sentOf p ownStage).time.now) ∧
    (let s := holding (selfRecord .staging) (sentOf withSelf ownStage)
     withSelf.selfIncluded = true ∧ noSelfRecord (sentOf withSelf ownStage) withSelf.set ∧
       ¬ closedFor (sentOf withSelf ownStage) withSelf.set .noRoom ∧
       isSelfRecord s withSelf.set 0 (selfRecord .staging) ∧ (selfRecord .staging).state = .staging ∧
       (∀ j : Fin 4, j ≠ 0 → s.part.table[j].map (·.set) ≠ some withSelf.set) ∧
       (voteTests s (selfRecord .staging) withSelf.selfCount withSelf.epoch).all (·.1) = true ∧
       (voteTests s (selfRecord .staging) withSelf.selfCount 1004095).all (·.1) = true ∧
       ((voteTests s (selfRecord .staging) withSelf.selfCount 1001023).find? (fun y => !y.1)).map (·.2) = some .late) ∧
    (let p := proposal .calling none
     sentNow (sentOf p ownCall) { reply := false, entry := ownCall, sent := ownCall, start := 0 } ∧
       p.phase = .calling ∧ [entry 7 1].length = p.targets.length ∧
       ownCall.body = .call { proposer := 5, seq := 1 } 1010000 [entry 7 1]) :=
  ⟨⟨sent_in_time _ _ _ rfl rfl (by decide), by unfold isStageGroup; simp; decide⟩,
    ⟨sent_in_time _ _ _ rfl rfl (by decide), by unfold isStageGroup; simp; decide, by decide⟩, by decide,
    sent_in_time _ _ _ rfl rfl (by decide), by decide⟩

theorem witness_CommitOrAbortSentClosesTheProposal :
    (sentNow (sentOf (proposal .committing none) ownCommit)
        { reply := false, entry := ownCommit, sent := ownCommit, start := 0 } ∧
      (sentOf (proposal .committing none) ownCommit).line.observed = some .frame ∧
      ownCommit.body = .commit { proposer := 5, seq := 1 } ∧
      sdiff (sentOf (proposal .committing none) ownCommit).time.now (proposal .committing none).epoch < 0) ∧
    (let s := sentOf (proposal .committing none) ownCommit
     isSelfRecord (holding (selfRecord .voted) s) { proposer := 5, seq := 1 } 0 (selfRecord .voted) ∧
       (selfRecord .voted).state = .voted ∧ noSelfRecord s { proposer := 5, seq := 1 } ∧
       isSelfRecord (holding (selfRecord .staging) s) { proposer := 5, seq := 1 } 0 (selfRecord .staging)) ∧
    (sentNow (sentOf (proposal .aborting none) ownAbort)
        { reply := false, entry := ownAbort, sent := ownAbort, start := 0 } ∧
      (proposal .aborting none).abortReason = some .late ∧ (proposal .aborting none).callSent = false) :=
  ⟨⟨sent_in_time _ _ _ rfl rfl (by decide), by decide⟩, by decide, sent_in_time _ _ _ rfl rfl (by decide), by decide⟩

/-- The station in VOTING, its window ending at 10,000. -/
def voting (result : TargetResult) (now : NetTime) : State :=
  let s := proposing
    { proposal .voting none with
      windowStart := some 9744, windowEnd := some 10000, targets := [{ station := 7, count := 1, result := result }] } []
    station
  s.setTime { s.time with now := now }

theorem witness_WindowEndDecidesTheVote :
    (let s := voting .ready (1010000 - 256)
     (∃ p, s.prop.activity = .active p ∧ p.phase = .voting ∧ p.windowEnd = some 10000 ∧ p.outstanding = none ∧
        p.lockLost = false ∧ (∀ t ∈ p.targets, t.result = .ready) ∧
        ((256 * bitTime s.ctl.rate / 2 : Nat) : Int) ≤ sdiff p.epoch s.time.now) ∧
       s.line.queue.countP isProposalFrame = 0 ∧ 10000 ≤ s.clock.osc) ∧
    (let s := voting .pending (1010000 - 1)
     0 < sdiff 1010000 s.time.now ∧ 10000 ≤ s.clock.osc ∧
       (s.setClock { s.clock with osc := 9999 }).clock.osc < 10000) ∧
    sdiff 1010000 (voting .pending 1010000).time.now ≤ 0 :=
  ⟨⟨⟨_, rfl, by decide⟩, by decide⟩, by decide, by decide⟩

theorem witness_EpochOfTheOpenProposal :
    (∀ p, station.prop.activity ≠ .active p) ∧
    (∃ p, (proposing (proposal .staging none) [ownStage] station).prop.activity = .active p ∧ p.phase = .staging ∧
      sdiff station.time.now p.epoch < 0) ∧
    (proposing (proposal .staging none) [ownStage] station).line.queue.countP isProposalFrame ≤ 1 ∧
    0 ≤ sdiff 1010000 (proposal .calling none).epoch ∧ (proposal .committing none).phase = .committing ∧
    ((proposal .aborting none).callSent = false ∧
      ({ proposal .aborting none with callSent := true } : Proposal).callSent = true ∧
      (proposal .aborting none).abortReason = some .late) :=
  ⟨fun _ h => (nomatch h), ⟨_, rfl, by decide⟩, by decide⟩

/-- A station of a lock state whose supervision timer has a count. -/
def supervised (lock : LockState) (n : Nat) (s : State) : State :=
  s.setTime { s.time with lock := lock, supervision := some n }

/-- The LOCKED station with its SYNC queued. -/
def syncQueued : State :=
  (station.setTime { station.time with ownSync := true }).setLine
    { station.line with queue := [ownSends none (.sync 0)] }

theorem sync_queued_owners (n : Nat) : OwnersSound (supervised .locked n syncQueued) := by
  refine ⟨fun a h => (nomatch h), ?_, ?_, ?_, ?_, ?_, ?_, fun _ h => (nomatch h), trivial⟩
  · exact (by decide : ∀ f ∈ [ownSends none (.sync 0)], isKind .reply f = false)
  · exact (by decide : ∀ r ∈ ([] : List PendingReply), isKind .reply r.frame = true)
  · exact (by decide : [ownSends none (.sync 0)].any isSync = true ∧ [ownSends none (.sync 0)].countP isSync ≤ 1)
  · exact fun _ => ⟨rfl, rfl⟩
  · exact (by decide : [ownSends none (.sync 0)].any (isKind .presence) = false ∧
      [ownSends none (.sync 0)].countP (isKind .presence) ≤ 1)
  · exact (by decide : [ownSends none (.sync 0)].any isProposalFrame = false ∧
      [ownSends none (.sync 0)].countP isProposalFrame ≤ 1)

theorem witness_SupervisionEndsLocked :
    ((supervised .locked 299999 station).time.supervision = some 299999 ∧ 299999 < 300000) ∧
    ((supervised .holdover 1999999 station).time.lock = .holdover ∧ 1999999 < 2000000) ∧
    ((supervised .locked 300000 station).time.supervision = some 300000 ∧
      (supervised .locked 300000 station).time.ownSync = false) ∧
    ((supervised .locked 300000 syncQueued).time.ownSync = true ∧ OwnersSound (supervised .locked 300000 syncQueued)) :=
  ⟨by decide, by decide, by decide, rfl, sync_queued_owners _⟩

/-- A station in HOLDOVER, its STAGE on the line, whose open proposal waits for it. -/
def losing : State :=
  supervised .holdover 2000000
    (sentOf { proposal .staging none with outstanding := some { frame := ownStage, queued := true } } ownStage)

theorem losing_sound :
    QueueSound losing ∧ OwnersSound losing ∧ ∀ set, losing.line.queue.countP (isInquireFor set) ≤ 1 := by
  have owned : OwnedOnce losing isSync losing.time.ownSync ∧
      OwnedOnce losing (isKind .presence) losing.memb.ownPresence ∧
      OwnedOnce losing isProposalFrame ((outstandingFrame losing).any (·.queued)) := by unfold OwnedOnce; decide
  have proposal : ActivitySound losing.prop.activity := by
    show ProposalSound _
    unfold ProposalSound; decide
  refine ⟨⟨by decide, by decide, by decide, fun _ h => by cases h; decide⟩,
    ⟨fun a h => ?_, by decide, fun _ h => (nomatch h), owned.1, fun h => (nomatch h), owned.2.1, owned.2.2,
      fun _ h _ => by cases h; decide, proposal⟩, fun set => List.countP_le_length⟩
  cases h
  exact ⟨fun _ => by decide, fun h => (nomatch h)⟩

theorem witness_LossOfLockReachesEveryBlock :
    let s := supervised .holdover 2000000 (overtaken .armed)
    ClaimsSound s ∧ s.time.supervision = some 2000000 ∧ s.time.lock = .holdover ∧
      (supervised .acquiring 300000 station).time.lock = .acquiring ∧ ClaimsSound (supervised .acquiring 300000 station) ∧
      (∃ i : Fin 4, s.part.table[i] ≠ none) ∧ (proposal .voting none).outstanding = none ∧
      (QueueSound losing ∧ OwnersSound losing ∧ (∀ set, losing.line.queue.countP (isInquireFor set) ≤ 1) ∧
        losing.line.queue.length < 12 ∧ (proposal .staging none).phase = .staging) :=
  ⟨by unfold ClaimsSound ClaimSound; decide, by decide, by decide, by decide, by unfold ClaimsSound ClaimSound; decide,
    by decide, rfl, losing_sound.1, losing_sound.2.1, losing_sound.2.2, by decide, rfl⟩

/-- An UNLOCKED station whose self-source timer has a count. -/
def unlockedFor (n : Nat) (state : StationState) : State :=
  (station.setCtl { station.ctl with state := state }).setTime
    { TimeUnit.initial 0 with running := true, syncTimer := some 0, selfSource := some n, sample := some 0 }

theorem witness_FirstLockMakesTheStationMember :
    ((unlockedFor 499999 .member).time.selfSource = some 499999 ∧ (unlockedFor 499999 .member).time.lock = .unlocked) ∧
    ((unlockedFor 500000 .joining).ctl.state = .joining ∧ (unlockedFor 500000 .joining).memb.ownPresence = false ∧
      (unlockedFor 500000 .joining).line.queue.length < 12) ∧
    (let s := supervised .acquiring 0 (listener.setCtl { listener.ctl with state := .joining })
     s.ctl.state = .joining ∧ inReception s ∧ (7 : Station) ≠ s.ctl.number ∧ s.time.lock = .acquiring ∧
       s.time.ownSync = false ∧ s.time.sample = some 999000 ∧ s.memb.ownPresence = false ∧
       s.line.queue.length < 12 ∧ sdiff ((999020 : NetTime) + BitVec.ofNat 48 s.time.trim.val) 999000 = 20 ∧
       sdiff ((998980 : NetTime) + BitVec.ofNat 48 s.time.trim.val) 999000 = -20) := by
  unfold inReception; decide

theorem witness_SyncAndPresenceTimers :
    (station.setTime { station.time with syncTimer := some 99999 }).time.syncTimer = some 99999 ∧
    (let s := station.setTime { station.time with syncTimer := some 100000 }
     s.time.syncTimer = some 100000 ∧ s.ctl.state = .member ∧ s.time.lock = .locked ∧ s.time.ownSync = false) ∧
    (syncQueued.time.ownSync = true) ∧
    (station.setMemb { station.memb with presence := some 100000 }).memb.presence = some 100000 ∧
    (station.memb.ownPresence = false ∧
      (station.setMemb { station.memb with ownPresence := true }).memb.ownPresence = true) := by decide

/-- A station that slews. -/
def slewing (offset : Int) (progress : Nat) : State :=
  (station.setTime { station.time with
    slew := some { offset := offset, remaining := offset, progress := progress } }).setClock
      { station.clock with microDue := true }

theorem witness_SlewPiecesMoveTime :
    (SlewSound { offset := 20, remaining := 20, progress := 4999 } ∧
      (20 - 20 + 1) * 100000 / 20 ≤ 4999 + 1 ∧ (slewing 20 4999).clock.microDue = true) ∧
    (SlewSound { offset := -20, remaining := -1, progress := 99999 } ∧
      (20 - 1 + 1) * 100000 / 20 ≤ 99999 + 1 ∧ ((-1 : Int).natAbs = 1)) ∧ 4998 + 1 < (20 - 20 + 1) * 100000 / 20 ∧
    station.time.slew = none := by
  unfold SlewSound; decide

theorem witness_MembershipIntervalExaminesTheEntries :
    (let s := station.setMemb { station.memb with interval := some 99999 }
     s.memb.interval = some 99999 ∧ 99999 < 100000) ∧
    (let s := station.setMemb { station.memb with
       interval := some 100000, entries := station.memb.entries.set 7 { peer with heard := false, missed := 2 } }
     s.memb.interval = some 100000 ∧ s.memb.entries[(7 : Station)].state = .present ∧
       s.memb.entries[(7 : Station)].heard = false ∧ 2 ≤ s.memb.entries[(7 : Station)].missed) ∧
    (peer.heard = true ∧ peer.state ≠ .self) ∧
    (∀ st : Station, ¬ (station.memb.entries[st].state = .present ∧ station.memb.entries[st].heard = false ∧
      2 ≤ station.memb.entries[st].missed)) ∧
    ((1 : Nat) < 2 ∧ station.memb.entries[(9 : Station)].state ≠ .present ∧
      station.memb.entries[(9 : Station)].heard = false) := by decide

theorem witness_RecordTimersRunOut :
    (let s := (holding (record .staging 0) station).setClock { station.clock with osc := 2 * 65536 }
     s.part.table[(0 : Fin 4)] = some (record .staging 0) ∧ (record .staging 0).self = false ∧
       (record .staging 0).timer = some 0 ∧ 0 + 65536 * bitTime s.ctl.rate ≤ s.clock.osc ∧
       s.line.queue.any (isInquireFor set7) = false) ∧
    (let s := (holding (record .voted 1010000) station).setClock { station.clock with osc := 2 * 2048 }
     s.part.table[(0 : Fin 4)] = some (record .voted 1010000) ∧ (record .voted 1010000).inquiries = 0 ∧
       0 + 2048 * bitTime s.ctl.rate ≤ s.clock.osc ∧
       ¬ 0 + 2048 * bitTime s.ctl.rate ≤ s.clock.osc - 1) ∧
    ((record .inDoubt 1010000).timer = some 0 ∧ (record .inDoubt 1010000).inquiries < 3 ∧
      3 ≤ ({ record .inDoubt 1010000 with inquiries := 3 } : SetRecord).inquiries) := by decide

theorem witness_ArmedRecordsAndSwapsAreApplied :
    ClaimsSound (overtaken .armed) ∧
    ((overtaken .armed).part.table[(0 : Fin 4)] = some (record .armed 1000500) ∧ (record .armed 1000500).state = .armed ∧
      (record .armed 1000500).epoch = some 1000500 ∧ sdiff (overtaken .armed).time.now 1000500 < 0 ∧
      0 ≤ sdiff 1000500 (1000500 : NetTime)) ∧
    ((overtaken .armed).chans[(4 : Fin 16)].pending =
        some { program := holdProgram .high, boundary := 1000600, set := set7 } ∧
      sdiff (overtaken .armed).time.now 1000600 < 0) ∧ station.chans[(4 : Fin 16)].pending = none :=
  ⟨(overtaken_sound .armed).1, by decide⟩

theorem witness_UndecidedRecordsExpire :
    (let s := holding (record .voted 1000000) station
     s.part.table[(0 : Fin 4)] = some (record .voted 1000000) ∧ (record .voted 1000000).state = .voted ∧
       (record .voted 1000000).epoch = some 1000000 ∧ 0 ≤ sdiff s.time.now 1000000) ∧
    ((holding (record .inDoubt 1000001) station).part.table[(0 : Fin 4)] = some (record .inDoubt 1000001) ∧
      sdiff station.time.now 1000001 < 0) ∧
    ((holding (selfRecord .voted) station).part.table[(0 : Fin 4)] = some (selfRecord .voted) ∧
      (selfRecord .voted).self = true) ∧
    (let s := asksFor [set7] (holding (record .inDoubt 1000000) station)
     let f := ownSends (some 7) (.inquire set7)
     s.line.queue.countP (isInquireFor set7) = 1 ∧ f ∈ s.line.queue ∧ isInquireFor set7 f = true ∧
       outstandingFrame s = none) := by decide

theorem witness_CaptureEdgesAreStampedOrCounted :
    State.reset.ctl.state = .config ∧ (station.ctl.state ≠ .config ∧ station.capt.refs[(2 : Fin 8)] = some .low) ∧
    (station.setCapt { station.capt with selections := Vector.replicate 8 .rising }).capt.selections[(2 : Fin 8)] =
      .rising ∧ (Level.low ≠ .high) ∧ station.capt.selections[(2 : Fin 8)] = .none ∧
    station.capt.sampled[(2 : Fin 8)] ≠ some (station.clock.osc / 2) ∧
    (let s := station.setClock { station.clock with osc := 9999 }
     s.capt.sampled[(2 : Fin 8)] = some (s.clock.osc / 2)) ∧
    ((List.replicate 31 captured).length < 32 ∧ 32 ≤ (List.replicate 32 captured).length) ∧
    sampleStands station ∧
    (let pins := (station.capt.pins.set 2 .high).set 3 .high
     pins[(2 : Fin 8)] ≠ .low ∧ pins[(3 : Fin 8)] ≠ .low ∧ (2 : Fin 8) ≠ 3 ∧
       ∀ j k : Fin 8, Level.low ≠ (station.capt.pins.set 2 .high)[j] → Level.low ≠ (station.capt.pins.set 2 .high)[k] → j = k) ∧
    ¬ sampleStands (station.setCapt
      { station.capt with lastSample := some { instant := 10001, time := 1000000, quality := .locked } }) := by
  refine ⟨by decide, by decide, by decide, by decide, by decide, by decide, by decide, by decide, fun _ h => (nomatch h),
    by decide, fun h => ?_⟩
  rcases h _ rfl with h | h
  · exact h rfl
  · exact absurd h (by decide)

theorem witness_LevelsAndBoundaries :
    validProgram (holdProgram .high) ∧
    (validProgram { train 0 with mode := .pulse, width := 1 } ∧ validProgram { train 3 with period := 2, width := 1 }) ∧
    sdiff (100 : NetTime) (0 + (train 3).start.setWidth 48) = 0 ∧
    sdiff (3099 : NetTime) (0 + (train 3).start.setWidth 48) = 2999 ∧
    (station.chans[(3 : Fin 16)].active = holdProgram .low ∧ station.chans[(3 : Fin 16)].anchor = 0) := by decide

theorem witness_FramesAndCommandsReadBack :
    Frame.formed ownStage = true ∧ Frame.formed ownCall = true ∧ ownCall.src = 5 ∧ ([] : List Bool).length < 8 ∧
      (List.replicate 7 true).length < 8 := by decide

theorem witness_StepsKeepClaimsSound :
    ClaimsSound (overtaken .armed) ∧ ∃ t, step ((overtaken .armed).setPending [.swapComplete 4]) = .next t :=
  ⟨(overtaken_sound .armed).1, _, rfl⟩

theorem witness_StepsKeepTheQueueAndItsOwnersSound :
    [ownSends none (.sync 0), ownPresence].Pairwise (fun x y => x.arbitration ≤ y.arbitration) ∧
    QueueSound (supervised .locked 0 syncQueued) ∧ OwnersSound (supervised .locked 0 syncQueued) ∧
      ∃ t, step ((supervised .locked 0 syncQueued).setPending [.attemptStart]) = .next t :=
  ⟨by decide, ⟨by decide, by decide, by decide, fun _ h => (nomatch h)⟩, sync_queued_owners _, _, rfl⟩

theorem witness_StepsKeepTheStoreSound :
    StoreSound (overtaken .voted) ∧ ClosedSound (overtaken .voted) ∧
      ∃ t, step ((overtaken .voted).setPending [.epochExpiry 0]) = .next t :=
  ⟨witness_StepMeetsWhatItPasses.2.2.1, by unfold ClosedSound; decide, _, rfl⟩

theorem listener_members : MembersSound listener := by
  have own : listener.memb.entries[(5 : Station)] = { MemberEntry.initial with state := .self } := by decide
  have other : listener.memb.entries[(7 : Station)] = peer := by decide
  have rest : ∀ st : Station, st ≠ 5 → st ≠ 7 → listener.memb.entries[st] = MemberEntry.initial := by decide
  have self : listener.ctl.number = 5 := rfl
  intro st
  rw [self]
  by_cases h5 : st = 5
  · rw [h5, own]; rfl
  · rw [if_neg h5]
    by_cases h7 : st = 7
    · rw [h7, other]
      exact ⟨fun n h => by cases h; decide, fun n h => by cases h; decide, by decide, rfl⟩
    · rw [rest st h5 h7]
      exact ⟨fun _ h => (nomatch h), fun _ h => (nomatch h), rfl, rfl, rfl, rfl, rfl⟩

theorem listener_owners : OwnersSound listener :=
  ⟨fun _ h => (nomatch h), fun _ h => (nomatch h), fun _ h => (nomatch h), by unfold OwnedOnce; decide, fun h => (nomatch h),
    by unfold OwnedOnce; decide, by unfold OwnedOnce; decide, fun _ h => (nomatch h), trivial⟩

theorem witness_StepsKeepTheUnitsSound :
    LogSound (logging .ready listener) ∧ MembersSound listener ∧ LineSound listener ∧ StationSound listener ∧
      OwnersSound listener ∧ TimeSound listener ∧ CaptureSound listener ∧ NoticesSound listener ∧
      ∃ t, step (listener.setPending [.missed 7 5 { proposer := 5, seq := 1 }]) = .next t :=
  ⟨⟨by decide, by decide, by decide, by decide, trivial⟩, listener_members, by unfold LineSound CountersSound; decide,
    ⟨fun h => absurd rfl h, by decide⟩, listener_owners, ⟨by decide, by decide, by decide, by decide, by decide, by decide, fun _ h => (nomatch h)⟩,
    by unfold CaptureSound; decide, by unfold NoticesSound; decide, _, rfl⟩

end Sys2Proof.Tests
end

/-! PROOFS. The level of every valid program and the boundary of a swap over it (R3, R5 to R8, R12, R80). -/

namespace Sys2Proof.Machine

/-! ### Network times (R80, R85) -/

/-- The signed difference as R80 gives it: the difference modulo 2^48, its upper half read as negative. -/
theorem sdiff_eq (a b : NetTime) :
    sdiff a b =
      if ((a.toNat : Int) - b.toNat) % 2 ^ 48 < 2 ^ 47 then ((a.toNat : Int) - b.toNat) % 2 ^ 48
      else ((a.toNat : Int) - b.toNat) % 2 ^ 48 - 2 ^ 48 := by
  have ha := a.isLt
  have hb := b.isLt
  have hdiff : (((a - b).toNat : Nat) : Int) = ((a.toNat : Int) - b.toNat) % 2 ^ 48 := by
    rw [BitVec.toNat_sub]; omega
  rw [sdiff, BitVec.toInt_eq_toNat_cond, ← hdiff]
  split <;> split <;> omega

/-- A network time moved by its signed difference to another is that other. -/
theorem moveTime_sdiff (a b : NetTime) : moveTime b (sdiff a b) = a := by
  rw [moveTime, sdiff, BitVec.ofInt_toInt, BitVec.add_comm, BitVec.sub_add_cancel]

/-- A network time moved by a count of microseconds. -/
theorem moveTime_natCast (t : NetTime) (n : Nat) : moveTime t n = t + BitVec.ofNat 48 n := by
  rw [moveTime, BitVec.ofInt_natCast]

/-! ### HOLD and PULSE (R5, R6, R12) -/

/-- A HOLD program gives its active level at every network time (R6). -/
theorem levelAt_hold {p : Program} (hm : p.mode = .hold) (anchor now : NetTime) :
    levelAt p anchor now = p.active := by
  simp [levelAt, hm]

/-- The boundary over a HOLD program is the epoch (R12). -/
theorem boundaryOf_hold {p : Program} (hm : p.mode = .hold) (anchor e : NetTime) : boundaryOf p anchor e = e := by
  simp [boundaryOf, hm]

/-- A PULSE is active from its start instant for its width (R6). -/
theorem levelAt_pulse {p : Program} (hm : p.mode = .pulse) (anchor now : NetTime) :
    levelAt p anchor now =
      if 0 ≤ sdiff now (startInstant p anchor) ∧ sdiff now (startInstant p anchor) < (p.width.toNat : Int) then p.active
      else p.rest := by
  simp [levelAt, hm]

/-- The boundary over a running pulse is its end, and the epoch else (R12). -/
theorem boundaryOf_pulse {p : Program} (hm : p.mode = .pulse) (anchor e : NetTime) :
    boundaryOf p anchor e =
      if 0 ≤ sdiff e (startInstant p anchor) ∧ sdiff e (startInstant p anchor) < (p.width.toNat : Int) then
        startInstant p anchor + p.width.setWidth 48
      else e := by
  simp only [boundaryOf, hm, moveTime_natCast, BitVec.ofNat_toNat]

/-! ### TRAIN (R7, R12) -/

/-- A TRAIN runs from its start for `count` periods, or without end when the count is 0 (R7). -/
theorem trainRunning_iff {p : Program} (hp : 0 < (p.period.toNat : Int)) (d : Int) :
    trainRunning p d = true ↔ 0 ≤ d ∧ (p.count = 0 ∨ d < p.count.toNat * (p.period.toNat : Int)) := by
  simp [trainRunning, Int.ediv_lt_iff_lt_mul hp]

/-- A running TRAIN is active for its width from the beginning of each period (R7). -/
theorem levelAt_train {p : Program} (hm : p.mode = .train) (anchor now : NetTime) :
    levelAt p anchor now =
      if trainRunning p (sdiff now (startInstant p anchor)) = true ∧
          sdiff now (startInstant p anchor) % (p.period.toNat : Int) < (p.width.toNat : Int) then p.active
      else p.rest := by
  simp [levelAt, hm, ite_and]

/-- The boundary over a TRAIN that is not running is the epoch (R12). -/
theorem boundaryOf_train_stopped {p : Program} (hm : p.mode = .train) {anchor e : NetTime}
    (hr : ¬ trainRunning p (sdiff e (startInstant p anchor)) = true) : boundaryOf p anchor e = e := by
  simp [boundaryOf, hm, hr]

/-- The boundary over a running TRAIN is a whole number of periods after its start: the first that is not before the epoch
(R12). -/
theorem boundaryOf_train_running {p : Program} (hm : p.mode = .train) (hp : 0 < (p.period.toNat : Int))
    {anchor e : NetTime} (hr : trainRunning p (sdiff e (startInstant p anchor)) = true) :
    ∃ k : Nat, sdiff e (startInstant p anchor) ≤ k * (p.period.toNat : Int) ∧
      (k : Int) * p.period.toNat < sdiff e (startInstant p anchor) + p.period.toNat ∧
      boundaryOf p anchor e = startInstant p anchor + BitVec.ofNat 48 (k * p.period.toNat) := by
  have hstarted := ((trainRunning_iff hp _).mp hr).1
  have hend := moveTime_sdiff e (startInstant p anchor)
  simp only [boundaryOf, hm, hr, if_true, ← moveTime_natCast, Nat.cast_mul]
  generalize sdiff e (startInstant p anchor) = d at *
  -- the periods completed at the epoch
  obtain ⟨q, hq⟩ := Int.eq_ofNat_of_zero_le (Int.ediv_nonneg hstarted hp.le)
  have hsplit : q * (p.period.toNat : Int) + d % p.period.toNat = d := by
    rw [← hq, Int.mul_comm, Int.mul_ediv_add_emod]
  have hrest := Int.emod_nonneg d hp.ne'
  have hless := Int.emod_lt_of_pos d hp
  by_cases hmod : d % p.period.toNat = 0
  · have hexact : q * (p.period.toNat : Int) = d := by omega
    refine ⟨q, by omega, by omega, ?_⟩
    rw [if_pos hmod, hexact, hend]
  · have hnext : ((q + 1 : Nat) : Int) * p.period.toNat = q * (p.period.toNat : Int) + p.period.toNat := by
      push_cast; ring
    refine ⟨q + 1, by omega, by omega, ?_⟩
    rw [if_neg hmod, hq, Nat.cast_succ]

/-! ### The obligation -/

/-- Settles O54: the levels by the program's mode, and the boundary of a running train by the periods completed at the
epoch. -/
theorem levelsAndBoundaries : Obligations.LevelsAndBoundaries := by
  refine ⟨sdiff_eq, fun _ => rfl, fun c it => by simp [onChannel], fun p anchor now hv => ?_⟩
  refine ⟨fun hm => ⟨levelAt_hold hm anchor now, boundaryOf_hold hm anchor now⟩,
    fun hm => ⟨levelAt_pulse hm anchor now, boundaryOf_pulse hm anchor now⟩, fun hm => ?_, ?_⟩
  · have hp : 0 < (p.period.toNat : Int) := by
      rcases hv with h | ⟨h, -⟩ | ⟨-, h, -⟩
      · cases hm.symm.trans h
      · cases hm.symm.trans h
      · omega
    simp only [← trainRunning_iff hp]
    exact ⟨levelAt_train hm anchor now, boundaryOf_train_stopped hm, boundaryOf_train_running hm hp⟩
  · rintro s c rfl rfl rfl
    rfl

end Sys2Proof.Machine

/-! PROOFS. READ CHANNEL, READ SET and READ OUTCOME: what they report, and that they change the stored response alone (R23, R52,
R74). -/

namespace Sys2Proof.Machine

/-! ### A command that is answered (R169, R170) -/

/-- An owner's answer, stored as the response. -/
theorem storeResponse_mk (code : Byte) (s : State) (status : Status) (results : List Byte) :
    storeResponse code { state := s, status := status, results := results } = withResponse s code status results := rfl

/-- An answer without results, stored as the response. -/
theorem storeResponse_answer (code : Byte) (s : State) (status : Status) :
    storeResponse code (answer s status) = withResponse s code status [] := rfl

/-- READ CHANNEL with its one argument goes to the Output Unit. -/
theorem exec_readChannel {s : State} (hc : carriesCommand s = true) (b : Byte) :
    exec (.readChannel [b]) s = .next (storeResponse 16 (ownReadChannel [b] s)) :=
  congrArg _ (takeCommand_owner hc rfl)

/-- READ SET with its one argument goes to the Participant Unit. -/
theorem exec_readSet {s : State} (hc : carriesCommand s = true) (b : Byte) :
    exec (.readSet [b]) s = .next (storeResponse 17 (ownReadSet [b] s)) :=
  congrArg _ (takeCommand_owner hc rfl)

/-- READ OUTCOME with its one argument goes to the Proposer Unit. -/
theorem exec_readOutcome {s : State} (hc : carriesCommand s = true) (b : Byte) :
    exec (.readOutcome [b]) s = .next (storeResponse 11 (ownReadOutcome [b] s)) :=
  congrArg _ (takeCommand_owner hc rfl)

/-! ### Arguments (R139) -/

@[simp] theorem charAt_singleton_zero (b : Byte) : charAt [b] 0 = b := rfl

/-- An index in range, read back from its character. -/
theorem indexArg?_ofNat {n : Nat} (hn : n ≤ 256) (i : Fin n) : indexArg? n (BitVec.ofNat 8 i.val).toNat = some i := by
  have hi : (BitVec.ofNat 8 i.val).toNat = i.val := by
    rw [BitVec.toNat_ofNat]; exact Nat.mod_eq_of_lt (by omega)
  simp [indexArg?, hi]

/-- An index out of range names nothing. -/
theorem indexArg?_none {n v : Nat} (h : n ≤ v) : indexArg? n v = none := dif_neg (by omega)

/-! ### READ CHANNEL (R23) -/

/-- READ CHANNEL of a channel reports its record and the level on its pin. -/
theorem ownReadChannel_ofNat (c : Fin 16) (s : State) :
    ownReadChannel [BitVec.ofNat 8 c.val] s =
      { state := s, status := .ok, results := channelBytes c.val s.chans[c] (pinLevel s c) } := by
  simp only [ownReadChannel, charAt_singleton_zero, indexArg?_ofNat (by decide : 16 ≤ 256)]

/-- READ CHANNEL of a number above 15 is refused. -/
theorem ownReadChannel_refused {b : Byte} (h : 15 < b.toNat) (s : State) :
    ownReadChannel [b] s = answer s .badArgument := by
  simp only [ownReadChannel, charAt_singleton_zero, indexArg?_none (n := 16) h]

/-! ### READ SET (R52) -/

/-- READ SET of a position reports what stands there. -/
theorem ownReadSet_ofNat (i : Fin 4) (s : State) :
    ownReadSet [BitVec.ofNat 8 i.val] s = { state := s, status := .ok, results := setBytes i.val s.part.table[i] } := by
  simp only [ownReadSet, charAt_singleton_zero, indexArg?_ofNat (by decide : 4 ≤ 256)]

/-- READ SET of a position above 3 is refused. -/
theorem ownReadSet_refused {b : Byte} (h : 3 < b.toNat) (s : State) : ownReadSet [b] s = answer s .badArgument := by
  simp only [ownReadSet, charAt_singleton_zero, indexArg?_none (n := 4) h]

/-! ### READ OUTCOME (R74) -/

/-- READ OUTCOME of an entry of the log reports it. -/
theorem ownReadOutcome_entry {b : Byte} {s : State} {e : LogEntry} (hb : b.toNat ≤ 7)
    (he : s.prop.log.reverse[b.toNat]? = some e) :
    ownReadOutcome [b] s = { state := s, status := .ok, results := outcomeBytes b.toNat e } := by
  simp only [ownReadOutcome, charAt_singleton_zero, if_neg (Nat.not_lt.mpr hb), he]

/-- READ OUTCOME beyond the log reads EMPTY. -/
theorem ownReadOutcome_beyond {b : Byte} {s : State} (hb : b.toNat ≤ 7) (hl : s.prop.log.length ≤ b.toNat) :
    ownReadOutcome [b] s = answer s .empty := by
  have he : s.prop.log.reverse[b.toNat]? = none := by simpa using hl
  simp only [ownReadOutcome, charAt_singleton_zero, if_neg (Nat.not_lt.mpr hb), he]

/-- READ OUTCOME of an index above 7 is refused. -/
theorem ownReadOutcome_refused {b : Byte} (h : 7 < b.toNat) (s : State) :
    ownReadOutcome [b] s = answer s .badArgument :=
  if_pos h

/-! ### Layouts (section 8.4) -/

/-- A flag's weight is its bit times the weight. -/
theorem weight_eq_mul (b : Bool) (n : Nat) : weight b n = n * b.toNat := by cases b <;> simp [weight]

/-- A character's value, as a character. -/
theorem byte_toNat (b : Byte) : byte b.toNat = b := by rw [byte, BitVec.ofNat_toNat, BitVec.setWidth_eq]

/-- The results that a READ OUTCOME lists, each with the station that it is of, 255 for this station's own. -/
def listedResults (e : LogEntry) : List (Nat × TargetResult) :=
  e.targets.map (fun t => (t.station.val, t.result)) ++ e.selfResult.toList.map fun r => (255, r)

/-- The layout of a READ OUTCOME: the index, the entry's head, and each listed result in three characters. -/
theorem outcomeBytes_eq (index : Nat) (e : LogEntry) :
    outcomeBytes index e =
      byte index :: (setIdBytes e.set ++ timeBytes e.epoch ++
        [if e.abort.isSome then 2 else 1, byte ((e.abort.map AbortReason.code).getD 0),
          byte (listedResults e).length] ++
        (listedResults e).flatMap fun x => resultBytes x.1 x.2) := by
  unfold outcomeBytes listedResults
  cases e.abort <;> cases e.selfResult <;> simp [byte, List.flatMap_map]

/-! ### The obligation -/

/-- Settles O17: each owner's answer, stored as the response, and its layout. -/
theorem channelSetAndOutcomeReads : Obligations.ChannelSetAndOutcomeReads := by
  intro s hc
  refine ⟨fun c => ?channel, fun b hb => ?badChannel, fun i hi => ?noRecord, fun i r hi => ?record, fun b hb => ?badSet,
    fun b e hb he => ?entry, fun b hb hl => ?beyond, fun b hb => ?badOutcome⟩
  case channel =>
    rw [exec_readChannel hc, ownReadChannel_ofNat, storeResponse_mk, channelBytes, weight_eq_mul, one_mul]
    cases s.chans[c].pending <;> rfl
  case badChannel => rw [exec_readChannel hc, ownReadChannel_refused hb, storeResponse_answer]
  case noRecord => rw [exec_readSet hc, ownReadSet_ofNat, hi, storeResponse_mk]; rfl
  case record =>
    rw [exec_readSet hc, ownReadSet_ofNat, hi, storeResponse_mk]
    simp only [setBytes, weight_eq_mul, one_mul]
    rfl
  case badSet => rw [exec_readSet hc, ownReadSet_refused hb, storeResponse_answer]
  case entry =>
    rw [exec_readOutcome hc, ownReadOutcome_entry hb he, storeResponse_mk, outcomeBytes_eq, byte_toNat]
    rfl
  case beyond => rw [exec_readOutcome hc, ownReadOutcome_beyond hb hl, storeResponse_answer]
  case badOutcome => rw [exec_readOutcome hc, ownReadOutcome_refused hb, storeResponse_answer]

end Sys2Proof.Machine

/-! PROOFS. STAGE and CALL at a target: what a STAGE does by what its set id finds, the vote on a CALL and its REPLY
(R28, R29, R32 to R35, R123). -/

namespace Sys2Proof.Machine

/-! ### The words of the rules, and the model's lookups -/

/-- Counting an anomaly, as R129 says it. -/
theorem countAnomaly_eq (s : State) : countAnomaly s = oneAnomaly s := rfl

/-- Hearing a station, as R102 says it. -/
theorem hear_eq (src : Station) (s : State) : hear src s = heardFrom src s := by
  simp only [hear, heardFrom, raiseIf, Bool.or_eq_true, beq_iff_eq]
  split <;> rfl

/-- The free-slot count is the number of slots left (R25). -/
theorem freeSlots_eq (s : State) : freeSlots s = slotsLeft s := by
  have hpos (o : Option SetRecord) : (itemsAtPos o).length = (o.map (·.items.length)).getD 0 := by cases o <;> rfl
  unfold freeSlots slotsInUse slotsLeft itemsHeld
  simp only [hpos]
  rfl

/-- A position holds a record that satisfies a predicate. -/
theorem holdsRecord_eq (which : SetRecord → Bool) (s : State) (i : Fin 4) :
    holdsRecord which s i = s.part.table[i].any which := by
  unfold holdsRecord
  cases s.part.table[i] <;> rfl

/-- A position without a record of a set id is passed over by the lookup. -/
theorem holdsRecord_set_eq_false {s : State} {set : SetId} {i : Fin 4} (h : s.part.table[i].map (·.set) ≠ some set) :
    holdsRecord (fun r => r.set == set) s i = false := by
  rw [holdsRecord_eq]
  cases ht : s.part.table[i] with
  | none => rfl
  | some r => simpa [ht] using h

/-- The closed list holds a set id with a closure kind. -/
theorem closedAs_iff {set : SetId} {kind : ClosureKind} {s : State} :
    closedAs set kind s = true ↔ closedFor s set kind := by
  simp [closedAs]

/-- A new closed entry, as R26 says it. -/
theorem addClosed_eq (set : SetId) (kind : ClosureKind) (s : State) :
    addClosed set kind s = s.setPart { s.part with
      closed := closedWith { set := set, kind := kind, missedSent := false } s.part.closed } := by
  have hne : (fun e : ClosedEntry => e.set != set) = fun e => decide (e.set ≠ set) := by
    funext e; simp [bne, beq_eq_decide]
  simp only [addClosed, closedWith, hne]
  rfl

/-- The first of the table positions, lowest first, that satisfies a predicate. -/
theorem find?_positions_eq_some {p : Fin 4 → Bool} {i : Fin 4} (hi : p i = true) (hlow : ∀ j, j < i → p j = false) :
    positions.find? p = some i := by
  have hp : positions = List.finRange 4 := rfl
  rw [hp, List.find?_eq_some_iff_getElem]
  exact ⟨hi, i.val, by simp, by simp, fun j hj => by simp [hlow ⟨j, by omega⟩ hj]⟩

/-- The record of a set id is found at its position. -/
theorem findRecord_isRecord {s : State} {set : SetId} {i : Fin 4} {r : SetRecord} (h : isRecord s set i r) :
    findRecord set s = some i := by
  obtain ⟨hi, hset, hlow⟩ := h
  exact find?_positions_eq_some (by simp [holdsRecord_eq, hi, hset]) fun j hj => holdsRecord_set_eq_false (hlow j hj)

/-- No record of a set id is found when none is held. -/
theorem findRecord_noRecord {s : State} {set : SetId} (h : noRecord s set) : findRecord set s = none :=
  List.find?_eq_none.mpr fun i _ => by simp [holdsRecord_set_eq_false (h i)]

/-- The lowest empty position is found. -/
theorem emptyPos_eq_some {s : State} {i : Fin 4} (hi : s.part.table[i] = none)
    (hlow : ∀ j, j < i → s.part.table[j] ≠ none) : emptyPos s = some i :=
  find?_positions_eq_some (by simp [hi]) fun j hj => by simpa [← Option.isSome_iff_ne_none] using hlow j hj

/-- A full table has no empty position. -/
theorem emptyPos_eq_none {s : State} (h : ∀ i : Fin 4, s.part.table[i] ≠ none) : emptyPos s = none :=
  List.find?_eq_none.mpr fun i _ => by simpa using h i

/-! ### Delivery (R125 to R128) -/

/-- The end of a frame in reception leaves GAP (R114). -/
theorem endFrame_inReception {s : State} (h : inReception s) : endFrame false s = afterFrame s := by
  unfold endFrame
  rw [h.2]
  rfl

/-- A MEMBER station checks the frame that it has in reception (R125). -/
theorem receiving_memberReceives {s : State} {src : Station} (h : memberReceives s src) : receiving s = true := by
  obtain ⟨hst, ⟨hatt, hobs⟩, -⟩ := h
  simp [receiving, checksFrames, hst, hatt, hobs]

/-- A formed frame of another station reaches its owner at a MEMBER station, its source heard first (R126 to R128). -/
theorem receiveFrame_delivered {s : State} {src : Station} {body : Body} (h : memberReceives s src)
    (hf : body.formed src = true) (deliver : State → State) :
    receiveFrame src body deliver s = deliver (delivered src s) := by
  have hrec := receiving_memberReceives h
  obtain ⟨hst, hin, hsrc⟩ := h
  have hnum : src ≠ (afterFrame s).ctl.number := hsrc
  have hpass : passesFilter (afterFrame s) body.kind = true := by simp [passesFilter, afterFrame, hst]
  simp [receiveFrame, frameEnds, hin.1, hrec, endFrame_inReception hin, hf, hpass, hnum, hear_eq, delivered]

/-- A frame addressed to this station goes to its owner (R128). -/
theorem ifAddressed_own (src : Station) (s : State) (effect : State → State) :
    ifAddressed s.ctl.number effect (delivered src s) = effect (delivered src s) := if_pos rfl

/-- A frame addressed to another station goes no further (R128). -/
theorem ifAddressed_other {dest src : Station} {s : State} (h : dest ≠ s.ctl.number) (effect : State → State) :
    ifAddressed dest effect (delivered src s) = delivered src s := if_neg h

/-- A frame of its source's own set has its effect (R28). -/
theorem ifProposer_own {src : Station} {set : SetId} (h : set.proposer = src) (effect : State → State) (s : State) :
    ifProposer src set effect s = effect s := if_pos h

/-- A frame of another proposer's set is counted (R28). -/
theorem ifProposer_other {src : Station} {set : SetId} (h : set.proposer ≠ src) (effect : State → State) (s : State) :
    ifProposer src set effect s = oneAnomaly s := if_neg h

/-! ### STAGE (R28 to R30) -/

/-- A STAGE addressed to this station, by whose set it names (R28, R128). -/
theorem exec_stage {s : State} {src : Station} {set : SetId} {items : List Item} (h : memberReceives s src)
    (hf : (Body.stage set items).formed src = true) (dest : Station) :
    exec (.stage src dest set items) s =
      .next (ifAddressed dest (ifProposer src set (stageEffect set items)) (delivered src s)) :=
  congrArg _ (receiveFrame_delivered h hf _)

/-- A STAGE of a proposer's own set, addressed to this station, is dealt with by what its set id finds (R29). -/
theorem exec_stage_own {s : State} {src : Station} {set : SetId} {items : List Item} (h : memberReceives s src)
    (hf : (Body.stage set items).formed src = true) (hp : set.proposer = src) :
    exec (.stage src s.ctl.number set items) s = .next (stageEffect set items (delivered src s)) := by
  rw [exec_stage h hf, ifAddressed_own, ifProposer_own hp]

/-- A STAGE for a record held: its items are taken in STAGING, and the frame is counted past it (R29). -/
theorem stageEffect_isRecord {s : State} {set : SetId} {i : Fin 4} {r : SetRecord} (h : isRecord s set i r)
    (items : List Item) :
    stageEffect set items s =
      if r.state = .staging then
        withRecord i (some { stageItems (slotsLeft s) r items with timer := some s.clock.osc }) s
      else oneAnomaly s := by
  have hi : s.part.table[i] = some r := h.1
  simp only [stageEffect, findRecord_isRecord h, holdsRecord_eq, takeStage, hi, freeSlots_eq, Option.any_some, beq_iff_eq]
  rfl

/-- A set refused NO_ROOM before takes no further STAGE (R29). -/
theorem stageEffect_closed_noRoom {s : State} {set : SetId} (h : noRecord s set) (hc : closedFor s set .noRoom)
    (items : List Item) : stageEffect set items s = s := by
  simp only [stageEffect, findRecord_noRecord h, if_pos (closedAs_iff.mpr hc)]

/-- A STAGE of a set that has expired is counted (R29). -/
theorem stageEffect_closed_expired {s : State} {set : SetId} (h : noRecord s set) (hn : ¬ closedFor s set .noRoom)
    (hc : closedFor s set .expired) (items : List Item) : stageEffect set items s = oneAnomaly s := by
  simp only [stageEffect, findRecord_noRecord h, if_neg (mt closedAs_iff.mp hn), if_pos (closedAs_iff.mpr hc)]
  rfl

/-- A new record without items takes no slot (R25). -/
theorem slotsLeft_putRecord_new {s : State} {i : Fin 4} (hi : s.part.table[i] = none) (set : SetId) (self : Bool) :
    slotsLeft (putRecord i (some (newRecord set [] self)) s) = slotsLeft s := by
  have hheld (j : Fin 4) :
      ((putRecord i (some (newRecord set [] self)) s).part.table[j].map (·.items.length)).getD 0 =
        (s.part.table[j].map (·.items.length)).getD 0 := by
    by_cases hj : j = i
    · subst hj; rw [putRecord_same, hi]; rfl
    · rw [putRecord_other _ _ hj]
  simp only [slotsLeft, itemsHeld, hheld]

/-- The items of a STAGE taken into a new record at an empty position (R29, R30). -/
theorem takeStage_new {s : State} {i : Fin 4} (hi : s.part.table[i] = none) (set : SetId) (items : List Item) :
    takeStage i items (putRecord i (some (newRecord set [] false)) s) =
      withRecord i (some { stageItems (slotsLeft s) (newRecord set [] false) items with timer := some s.clock.osc }) s := by
  simp only [takeStage, putRecord_same, freeSlots_eq, slotsLeft_putRecord_new hi]
  simp [putRecord, withRecord]

/-- A STAGE of an unknown set id makes its record at the lowest empty position (R24, R29). -/
theorem stageEffect_new {s : State} {set : SetId} (h : noRecord s set) (hn : ¬ closedFor s set .noRoom)
    (he : ¬ closedFor s set .expired) {i : Fin 4} (hi : s.part.table[i] = none)
    (hlow : ∀ j, j < i → s.part.table[j] ≠ none) (items : List Item) :
    stageEffect set items s =
      withRecord i (some { stageItems (slotsLeft s) (newRecord set [] false) items with timer := some s.clock.osc }) s := by
  simp only [stageEffect, findRecord_noRecord h, if_neg (mt closedAs_iff.mp hn), if_neg (mt closedAs_iff.mp he),
    emptyPos_eq_some hi hlow, takeStage_new hi]

/-- A STAGE of an unknown set id that finds the table full leaves a NO_ROOM entry (R26, R29). -/
theorem stageEffect_full {s : State} {set : SetId} (h : noRecord s set) (hn : ¬ closedFor s set .noRoom)
    (he : ¬ closedFor s set .expired) (hfull : ∀ i : Fin 4, s.part.table[i] ≠ none) (items : List Item) :
    stageEffect set items s = s.setPart { s.part with
      closed := closedWith { set := set, kind := .noRoom, missedSent := false } s.part.closed } := by
  simp only [stageEffect, findRecord_noRecord h, if_neg (mt closedAs_iff.mp hn), if_neg (mt closedAs_iff.mp he),
    emptyPos_eq_none hfull, addClosed_eq]

/-- Settles O26: each row of R29's table, by what the set id finds. -/
theorem stageByWhatItsSetFinds : Obligations.StageByWhatItsSetFinds := by
  intro s src set items hm hf
  refine ⟨fun dest hd => ?other, fun hp => ?foreign, fun hp => ⟨fun i r hr => ?held, fun hr => ⟨fun hn => ?noRoom,
    fun hn he => ?expired, fun hn he => ⟨fun i hi hlow => ?new, fun hfull => ?full⟩⟩⟩⟩
  case other =>
    rw [exec_stage hm hf, ifAddressed_other hd]
  case foreign =>
    rw [exec_stage hm hf, ifAddressed_own, ifProposer_other hp]
  all_goals
    rw [exec_stage_own hm hf hp]
    refine congrArg _ ?_
  case held => exact stageEffect_isRecord (s := delivered src s) hr items
  case noRoom => exact stageEffect_closed_noRoom (s := delivered src s) hr hn items
  case expired => exact stageEffect_closed_expired (s := delivered src s) hr hn he items
  case new => exact stageEffect_new (s := delivered src s) hr hn he hi hlow items
  case full => exact stageEffect_full (s := delivered src s) hr hn he hfull items

/-! ### The vote (R32 to R34) -/

/-- The verdict of checks in their order: the reason of the first that fails, and READY when none does (R32). -/
def firstRefusal (checks : List (Bool × RefuseReason)) : Verdict :=
  match checks.find? fun x => !x.1 with
  | some x => .refused x.2
  | none => .ready

@[simp] theorem firstRefusal_nil : firstRefusal [] = .ready := rfl

@[simp] theorem firstRefusal_cons (b : Bool) (reason : RefuseReason) (rest : List (Bool × RefuseReason)) :
    firstRefusal ((b, reason) :: rest) = if b = false then .refused reason else firstRefusal rest := by
  cases b <;> rfl

/-- The first failing check gives the reason. -/
theorem firstRefusal_refused {checks : List (Bool × RefuseReason)} {x : Bool × RefuseReason}
    (h : checks.find? (fun y => !y.1) = some x) : firstRefusal checks = .refused x.2 := by
  rw [firstRefusal, h]

/-- Checks that all pass give READY. -/
theorem firstRefusal_ready {checks : List (Bool × RefuseReason)} (h : checks.all (·.1) = true) :
    firstRefusal checks = .ready := by
  have hnone : checks.find? (fun y => !y.1) = none := by simpa using h
  rw [firstRefusal, hnone]

/-- The model's checks are checks 2 to 8 of R32 in their order. -/
theorem voteChecks_eq (s : State) (r : SetRecord) (count : Nat) (epoch : NetTime) :
    voteChecks s r count epoch = firstRefusal (voteTests s r count epoch) := by
  simp only [voteChecks, voteTests, firstRefusal_cons, firstRefusal_nil, ← List.not_any_eq_all_not, Bool.not_eq_false',
    decide_eq_false_iff_not, Int.not_le]
  rfl

/-- The verdict on a STAGING record is that of checks 2 to 8 (R32). -/
theorem voteVerdict_staging {s : State} {i : Fin 4} {r : SetRecord} (hi : s.part.table[i] = some r)
    (hst : r.state = .staging) (set : SetId) (count : Nat) (epoch : NetTime) :
    voteVerdict (some i) set count epoch s = firstRefusal (voteTests s r count epoch) := by
  simp only [voteVerdict, hi, if_pos hst, voteChecks_eq]

/-- A record past STAGING is unknown to a CALL (R32). -/
theorem voteVerdict_past_staging {s : State} {i : Fin 4} {r : SetRecord} (hi : s.part.table[i] = some r)
    (hst : r.state ≠ .staging) (set : SetId) (count : Nat) (epoch : NetTime) :
    voteVerdict (some i) set count epoch s = .refused .unknownSet := by
  simp only [voteVerdict, hi, if_neg hst]

/-- A set id that no record holds is refused NO_ROOM when a STAGE of it was, and else unknown (R32). -/
theorem voteVerdict_none (set : SetId) (count : Nat) (epoch : NetTime) (s : State) :
    voteVerdict none set count epoch s = .refused (if closedFor s set .noRoom then .noRoom else .unknownSet) := by
  simp only [voteVerdict, noRecordReason, closedAs_iff]

/-- READY makes the record VOTED and claims its channels (R33). -/
theorem castVote_ready {s : State} {i : Fin 4} {r : SetRecord} (hi : s.part.table[i] = some r)
    (hst : r.state = .staging) {set : SetId} {count : Nat} {epoch : NetTime}
    (hv : firstRefusal (voteTests s r count epoch) = .ready) (windowEnd : Option Instant) :
    castVote (some i) set count epoch windowEnd s =
      claimItems set r.items (putRecord i (some (votedRecord r count epoch windowEnd)) s) := by
  simp only [castVote, hi, voteVerdict_staging hi hst, if_pos hst, if_pos hv]

/-- A refusal frees a STAGING record, and changes nothing else when no INQUIRE of its set is queued (R34). -/
theorem castVote_refused {s : State} {i : Fin 4} {r : SetRecord} (hi : s.part.table[i] = some r)
    (hst : r.state = .staging) (hq : s.line.queue.any (isInquireFor r.set) = false) {set : SetId} {count : Nat}
    {epoch : NetTime} (hv : firstRefusal (voteTests s r count epoch) ≠ .ready) (windowEnd : Option Instant) :
    castVote (some i) set count epoch windowEnd s = withRecord i none s := by
  simp only [castVote, hi, voteVerdict_staging hi hst, if_pos hst, if_neg hv]
  exact freeRecord_staging hi hst hq

/-- A record past STAGING is left by a vote, and counted (R32). -/
theorem castVote_past_staging {s : State} {i : Fin 4} {r : SetRecord} (hi : s.part.table[i] = some r)
    (hst : r.state ≠ .staging) (set : SetId) (count : Nat) (epoch : NetTime) (windowEnd : Option Instant) :
    castVote (some i) set count epoch windowEnd s = oneAnomaly s := by
  simp only [castVote, hi, if_neg hst, countAnomaly_eq]

/-- A vote changes the Participant Unit, the Line Controller and the Proposer Unit alone. -/
theorem castVote_frame (found : Option (Fin 4)) (set : SetId) (count : Nat) (epoch : NetTime)
    (windowEnd : Option Instant) (s : State) :
    ∃ part line prop, castVote found set count epoch windowEnd s = ((s.setPart part).setLine line).setProp prop := by
  unfold castVote
  split
  · split
    · split
      · split
        · exact ⟨(claimItems set _ (putRecord _ _ s)).part, s.line, s.prop, rfl⟩
        · exact ⟨_, _, _, freeRecord_frame _ s⟩
      · exact ⟨s.part, (oneAnomaly s).line, s.prop, rfl⟩
    · exact ⟨s.part, s.line, s.prop, rfl⟩
  · exact ⟨s.part, s.line, s.prop, rfl⟩

/-! ### CALL (R28, R32 to R35, R123) -/

/-- The reservation of a CALL's reply window, on the frame delivered (R123). -/
theorem reserve_delivered (src : Station) (n : Nat) (s : State) : reserve n (delivered src s) = called src n s := by
  have hline : (delivered src s).line.reservation = s.line.reservation := rfl
  unfold reserve called
  rw [hline]
  cases s.line.reservation with
  | none => simp only [Option.getD_none, Nat.max_self]; rfl
  | some e => rfl

/-- A CALL, its window reserved, by whose set it names (R28, R123). -/
theorem exec_call {s : State} {src : Station} {set : SetId} {epoch : NetTime} {targets : List CallEntry}
    (h : memberReceives s src) (hf : (Body.call set epoch targets).formed src = true) :
    exec (.call src set epoch targets) s =
      .next (ifProposer src set (callEffect set epoch targets) (called src targets.length s)) :=
  (congrArg _ (receiveFrame_delivered h hf _)).trans (by rw [reserve_delivered])

/-- A formed CALL names no station twice (R137). -/
theorem nodup_of_call_formed {src : Station} {set : SetId} {epoch : NetTime} {targets : List CallEntry}
    (hf : (Body.call set epoch targets).formed src = true) : (targets.map (·.station)).Nodup := by
  simp only [Body.formed, callListFormed, Bool.and_eq_true, decide_eq_true_eq] at hf
  obtain ⟨-, ⟨-, hnodup⟩, -⟩ := hf
  exact hnodup

/-- A list that names no station twice has its entry for this station at that entry's own place. -/
theorem callEntryFor_eq_some {own : Station} {targets : List CallEntry} (hn : (targets.map (·.station)).Nodup)
    {k count : Nat} (hk : targets[k]?.map (fun e => (e.station, e.count.toNat)) = some (own, count)) (first : Nat) :
    callEntryFor own first targets = some (first + k, count) := by
  induction targets generalizing k first with
  | nil => simp at hk
  | cons e rest ih =>
    rw [List.map_cons, List.nodup_cons] at hn
    obtain ⟨hfresh, hrest⟩ := hn
    cases k with
    | zero => simp_all [callEntryFor]
    | succ k =>
      obtain ⟨named, hnamed, hentry⟩ := Option.map_eq_some_iff.mp hk
      have hown : e.station ≠ own := fun h => hfresh <|
        List.mem_map.mpr ⟨named, List.mem_of_getElem? hnamed, (congrArg Prod.fst hentry).trans h.symm⟩
      rw [callEntryFor, if_neg hown, ih hrest hk]
      congr 2; omega

/-- A list that does not name this station has no entry for it. -/
theorem callEntryFor_eq_none {own : Station} {targets : List CallEntry} (h : ∀ e ∈ targets, e.station ≠ own)
    (first : Nat) : callEntryFor own first targets = none := by
  induction targets generalizing first with
  | nil => rfl
  | cons e rest ih =>
    rw [callEntryFor, if_neg (h e List.mem_cons_self), ih fun x hx => h x (List.mem_cons_of_mem e hx)]

/-- The vote on a CALL, and its REPLY with the slots left by the vote (R32, R35). -/
theorem callVote_eq (set : SetId) (epoch : NetTime) (n k count : Nat) (s : State) :
    callVote set epoch n k count s =
      handsReply set k (voteVerdict (findRecord set s) set count epoch s)
        (castVote (findRecord set s) set count epoch (some (windowEndAt s n)) s) := by
  obtain ⟨part, line, prop, hcast⟩ := castVote_frame (findRecord set s) set count epoch (some (windowEndAt s n)) s
  simp only [callVote, hcast, freeSlots_eq]
  rfl

/-- A CALL that names this station in its proposer's own set is voted on (R32). -/
theorem exec_call_named {s : State} {src : Station} {set : SetId} {epoch : NetTime} {targets : List CallEntry}
    (h : memberReceives s src) (hf : (Body.call set epoch targets).formed src = true) (hp : set.proposer = src)
    {k count : Nat} (hk : targets[k]?.map (fun e => (e.station, e.count.toNat)) = some (s.ctl.number, count)) :
    exec (.call src set epoch targets) s =
      .next (callVote set epoch targets.length k count (called src targets.length s)) := by
  have hentry : callEntryFor (called src targets.length s).ctl.number 0 targets = some (k, count) := by
    rw [← Nat.zero_add k]; exact callEntryFor_eq_some (nodup_of_call_formed hf) hk 0
  rw [exec_call h hf, ifProposer_own hp, callEffect, hentry]

/-- Settles O28: checks 2 to 8 pass, the record votes and its channels are claimed, and the REPLY says READY. -/
theorem callVotesReady : Obligations.CallVotesReady := by
  intro s set epoch targets k count i r hm hf hk hr hst htests
  have hi : (called set.proposer targets.length s).part.table[i] = some r := hr.1
  have hready : firstRefusal (voteTests (called set.proposer targets.length s) r count epoch) = .ready :=
    firstRefusal_ready htests
  rw [exec_call_named hm hf rfl hk, callVote_eq,
    findRecord_isRecord (s := called set.proposer targets.length s) hr, voteVerdict_staging hi hst, hready,
    castVote_ready hi hst hready]
  rfl

/-- Settles O29: the verdict by what the set id finds, and what the refusal leaves of the record. -/
theorem callRefused : Obligations.CallRefused := by
  intro s src set epoch targets hm hf
  refine ⟨fun hp => ?foreign, fun hp hnot => ?unnamed, fun k count hp hk =>
    ⟨fun hr => ?absent, fun i r hr => ⟨fun hst => ?past, fun hst hq x hx => ?failing⟩⟩⟩
  case foreign => rw [exec_call hm hf, ifProposer_other hp]
  case unnamed =>
    rw [exec_call hm hf, ifProposer_own hp, callEffect,
      callEntryFor_eq_none (own := (called src targets.length s).ctl.number) hnot]
  all_goals rw [exec_call_named hm hf hp hk, callVote_eq]
  case absent =>
    rw [findRecord_noRecord (s := called src targets.length s) hr, voteVerdict_none]
    rfl
  all_goals
    have hi : (called src targets.length s).part.table[i] = some r := hr.1
    rw [findRecord_isRecord (s := called src targets.length s) hr]
  case past => rw [voteVerdict_past_staging hi hst, castVote_past_staging hi hst]
  case failing =>
    have hq : (called src targets.length s).line.queue.any (isInquireFor r.set) = false := hr.2.1 ▸ hq
    have hrefused : firstRefusal (voteTests (called src targets.length s) r count epoch) = .refused x.2 :=
      firstRefusal_refused hx
    rw [voteVerdict_staging hi hst, hrefused, castVote_refused hi hst hq (by simp [hrefused])]

end Sys2Proof.Machine


/-! PROOFS. Drafts: OPEN SET by station state and phase, and the checks of ADD ITEM with the draft afterwards (R4, R54, R56,
R57). -/

namespace Sys2Proof.Machine

/-! ### Numbers and items read back from their characters (R134, R135) -/

/-- A number fills the characters that it is given. -/
@[simp] theorem length_beBytes (n v : Nat) : (beBytes n v).length = n := by
  induction n with
  | zero => rfl
  | succ n ih => simp [beBytes, ih]

/-- Characters appended to others read as the lower places of the number. -/
theorem foldl_beBytes (n v acc : Nat) :
    (beBytes n v).foldl (fun acc b => acc * 256 + b.toNat) acc = acc * 256 ^ n + v % 256 ^ n := by
  induction n generalizing acc with
  | zero => simp [beBytes, Nat.mod_one]
  | succ n ih =>
    have hchar : (BitVec.ofNat 8 (v / 256 ^ n)).toNat = v / 256 ^ n % 256 := BitVec.toNat_ofNat _ _
    rw [beBytes, List.foldl_cons, ih, hchar, Nat.pow_succ, Nat.mod_mul]
    generalize v / 256 ^ n % 256 = high
    ring

/-- A number within its characters is read back from where they stand. -/
theorem fieldAt_of_drop {bs rest : List Byte} {off n v : Nat} (h : bs.drop off = beBytes n v ++ rest)
    (hv : v < 256 ^ n) : fieldAt bs off n = v := by
  have htake : (beBytes n v ++ rest).take n = beBytes n v := List.take_left' (length_beBytes n v)
  rw [fieldAt, h, htake, ofBytes, foldl_beBytes, Nat.zero_mul, Nat.zero_add, Nat.mod_eq_of_lt hv]

/-- The mode and the two levels are read back from the first character of a program. -/
theorem mode_and_levels_read_back (mode : Mode) (active rest : Level) :
    let b : Byte := BitVec.ofNat 8 (mode.code * 64 + active.code * 32 + rest.code * 16)
    modeOf (b.toNat / 64) = mode ∧ levelOfBit (b.getLsbD 5) = active ∧ levelOfBit (b.getLsbD 4) = rest := by
  cases mode <;> cases active <;> cases rest <;> decide

/-- A program is read back from its characters. -/
theorem programAt_programBytes (p : Program) (a b : Byte) : programAt (a :: b :: programBytes p) 2 = p := by
  have hchar : charAt (a :: b :: programBytes p) 2 =
      BitVec.ofNat 8 (p.mode.code * 64 + p.active.code * 32 + p.rest.code * 16) := rfl
  have hstart : fieldAt (a :: b :: programBytes p) 3 4 = p.start.toNat :=
    fieldAt_of_drop (rest := beBytes 3 p.period.toNat ++ beBytes 3 p.width.toNat ++ beBytes 2 p.count.toNat) rfl
      p.start.isLt
  have hperiod : fieldAt (a :: b :: programBytes p) 7 3 = p.period.toNat :=
    fieldAt_of_drop (rest := beBytes 3 p.width.toNat ++ beBytes 2 p.count.toNat) rfl p.period.isLt
  have hwidth : fieldAt (a :: b :: programBytes p) 10 3 = p.width.toNat :=
    fieldAt_of_drop (rest := beBytes 2 p.count.toNat) rfl p.width.isLt
  have hcount : fieldAt (a :: b :: programBytes p) 13 2 = p.count.toNat := fieldAt_of_drop (rest := []) rfl p.count.isLt
  obtain ⟨hmode, hactive, hrest⟩ := mode_and_levels_read_back p.mode p.active p.rest
  simp only [programAt, hchar, hstart, hperiod, hwidth, hcount, hmode, hactive, hrest, BitVec.ofNat_toNat,
    BitVec.setWidth_eq]

/-- The most significant bit of a character has weight 128. -/
theorem getLsbD_seven (b : Byte) : b.getLsbD 7 = decide (128 ≤ b.toNat) :=
  (BitVec.msb_eq_getLsbD_last b).symm.trans (BitVec.msb_eq_decide b)

/-- An item is read back from its characters, whatever its channel field and its mode. -/
theorem itemAt_itemBytes (it : Item) (a : Byte) : itemAt (a :: itemBytes it) 1 = it := by
  have hchar : charAt (a :: itemBytes it) 1 =
      BitVec.ofNat 8 ((if it.load = .atBoundary then 128 else 0) + it.channel.toNat) := rfl
  have hprogram : programAt (a :: itemBytes it) 2 = it.program := programAt_programBytes it.program a _
  obtain ⟨load, channel, program⟩ := it
  have hlt := channel.isLt
  simp only [itemAt, hchar, hprogram, getLsbD_seven, BitVec.toNat_ofNat, decide_eq_true_eq]
  congr 1
  · cases load
    · exact if_neg (by simp; omega)
    · exact if_pos (by simp; omega)
  · refine BitVec.eq_of_toNat_eq ?_
    rw [BitVec.toNat_setWidth, BitVec.toNat_ofNat]
    split <;> omega

/-! ### OPEN SET (R56) -/

/-- OPEN SET with its six arguments goes to the Proposer Unit. -/
theorem exec_openSet {s : State} (hc : carriesCommand s = true) (epoch : NetTime) :
    exec (.openSet (beBytes 6 epoch.toNat)) s = .next (storeResponse 7 (ownOpenSet (beBytes 6 epoch.toNat) s)) :=
  congrArg _ (takeCommand_owner hc (length_beBytes 6 _))

/-- Settles O10: the epoch read back from its characters, by station state and phase. -/
theorem openSetByPhase : Obligations.OpenSetByPhase := by
  intro s epoch hc
  have hepoch : fieldAt (beBytes 6 epoch.toNat) 0 6 = epoch.toNat :=
    fieldAt_of_drop (rest := []) (List.append_nil _).symm epoch.isLt
  rw [exec_openSet hc, ownOpenSet, hepoch, BitVec.ofNat_toNat, BitVec.setWidth_eq]
  split
  · rfl
  · cases s.prop.activity <;> rfl

/-! ### Validity and the draft's order (R4, R54) -/

/-- The model's check of a program is R4's. -/
theorem programValid_iff (p : Program) : programValid p = true ↔ validProgram p := by
  unfold programValid validProgram
  cases p.mode <;> simp [and_assoc]

/-- The model's check of an item is R4's. -/
theorem itemValid_iff (it : Item) : itemValid it = true ↔ validItem it := by
  simp only [itemValid, Bool.and_eq_true, programValid_iff, decide_eq_true_eq]
  exact and_congr_right fun _ => Nat.lt_succ_iff

/-- The model's comparison of draft items is the draft's order. -/
theorem draftBefore_iff {x y : DraftItem} : draftBefore x y = true ↔ draftOrder x y := by
  simp only [draftBefore, draftOrder, Bool.or_eq_true, Bool.and_eq_true, decide_eq_true_eq, beq_iff_eq]

/-- The model's comparison of a draft item's target and channel. -/
theorem sameSlot_iff {st : Station} {it : Item} {x : DraftItem} :
    sameSlot st it x = true ↔ x.target = st ∧ x.item.channel = it.channel := by
  simp [sameSlot]

/-- The draft's order is transitive. -/
theorem draftOrder_trans {x y z : DraftItem} (hxy : draftOrder x y) (hyz : draftOrder y z) : draftOrder x z := by
  simp only [draftOrder, Fin.ext_iff] at *
  omega

/-- Of two draft items that differ in target or channel, one is before the other. -/
theorem draftOrder_of_not {x y : DraftItem} (hne : ¬ (x.target = y.target ∧ x.item.channel = y.item.channel))
    (h : ¬ draftOrder x y) : draftOrder y x := by
  simp only [draftOrder, Fin.ext_iff, ← BitVec.toNat_inj] at *
  omega

/-! ### A new item at its place (R57) -/

/-- The items of a draft before the place of a new one stay before it, and the others after it. -/
theorem insertDraft_eq_append (d : DraftItem) (items : List DraftItem) :
    ∃ front back, items = front ++ back ∧ insertDraft d items = front ++ d :: back := by
  induction items with
  | nil => exact ⟨[], [], rfl, rfl⟩
  | cons x rest ih =>
    unfold insertDraft
    split
    · obtain ⟨front, back, hitems, hins⟩ := ih
      exact ⟨x :: front, back, by rw [hitems, List.cons_append], by rw [hins, List.cons_append]⟩
    · exact ⟨[], x :: rest, rfl, rfl⟩

/-- A new item is added, and no other. -/
theorem mem_insertDraft {d x : DraftItem} {items : List DraftItem} :
    x ∈ insertDraft d items ↔ x = d ∨ x ∈ items := by
  obtain ⟨front, back, hitems, hins⟩ := insertDraft_eq_append d items
  rw [hins, hitems]
  simp only [List.mem_append, List.mem_cons]
  tauto

/-- A new item whose target and channel no other has keeps the draft in order. -/
theorem insertDraft_ordered {d : DraftItem} {items : List DraftItem} (h : items.Pairwise draftOrder)
    (hnew : ∀ x ∈ items, ¬ (x.target = d.target ∧ x.item.channel = d.item.channel)) :
    (insertDraft d items).Pairwise draftOrder := by
  induction items with
  | nil => simp [insertDraft]
  | cons x rest ih =>
    obtain ⟨hx, hrest⟩ := List.pairwise_cons.mp h
    obtain ⟨hnewx, hnewrest⟩ := List.forall_mem_cons.mp hnew
    unfold insertDraft
    split
    next hbefore =>
      refine List.pairwise_cons.mpr ⟨fun y hy => ?_, ih hrest hnewrest⟩
      rcases mem_insertDraft.mp hy with rfl | hy
      · exact draftBefore_iff.mp hbefore
      · exact hx y hy
    next hbefore =>
      have hdx : draftOrder d x := draftOrder_of_not hnewx (mt draftBefore_iff.mpr hbefore)
      refine List.pairwise_cons.mpr ⟨fun y hy => ?_, h⟩
      rcases List.mem_cons.mp hy with rfl | hy
      · exact hdx
      · exact draftOrder_trans hdx (hx y hy)

/-! ### Room in the draft (R54, R57) -/

/-- A station is among the model's other targets when it is not this one and an item is for it. -/
theorem mem_otherTargets {own st : Station} {items : List DraftItem} :
    st ∈ otherTargets own items ↔ st ≠ own ∧ ∃ x ∈ items, x.target = st := by
  simp [otherTargets, and_comm]

/-- The model's list of other targets has each of them once. -/
theorem length_otherTargets (own : Station) (items : List DraftItem) :
    (otherTargets own items).length = otherTargetCount own items := by
  have hnodup : (otherTargets own items).Nodup := List.nodup_dedup _
  rw [otherTargetCount, List.countP_eq_length_filter]
  refine ((List.perm_ext_iff_of_nodup hnodup ((List.nodup_finRange 32).filter _)).mpr fun st => ?_).length_eq
  simp only [mem_otherTargets, List.mem_filter, List.mem_finRange, true_and, decide_eq_true_eq]

/-- Check 3 of ADD ITEM, as R57 says it. -/
theorem draftHasRoom_iff {own st : Station} {it : Item} {items : List DraftItem} :
    draftHasRoom own st it items = true ↔ (∃ x ∈ items, x.target = st ∧ x.item.channel = it.channel) ∨
      items.length < 32 ∧ (st = own ∨ (∃ x ∈ items, x.target = st) ∨ otherTargetCount own items < 8) := by
  simp only [draftHasRoom, Bool.or_eq_true, Bool.and_eq_true, List.any_eq_true, sameSlot_iff, decide_eq_true_eq, beq_iff_eq,
    length_otherTargets, or_assoc]
  rfl

/-- An item with a target and channel of the draft replaces the one that stands there. -/
theorem addToDraft_replaces {st : Station} {it : Item} {items : List DraftItem}
    (h : ∃ x ∈ items, x.target = st ∧ x.item.channel = it.channel) :
    addToDraft st it items = items.map fun x =>
      if x.target = st ∧ x.item.channel = it.channel then { target := st, item := it } else x := by
  have hany : items.any (sameSlot st it) = true := by simpa only [List.any_eq_true, sameSlot_iff] using h
  simp only [addToDraft, if_pos hany, sameSlot_iff]

/-- Any other item is inserted. -/
theorem addToDraft_inserts {st : Station} {it : Item} {items : List DraftItem}
    (h : ∀ x ∈ items, ¬ (x.target = st ∧ x.item.channel = it.channel)) :
    addToDraft st it items = insertDraft { target := st, item := it } items := by
  have hany : ¬ items.any (sameSlot st it) = true := by
    simpa only [List.any_eq_true, sameSlot_iff, not_exists, not_and] using h
  simp only [addToDraft, if_neg hany]

/-! ### ADD ITEM (R57) -/

/-- ADD ITEM with its fifteen arguments goes to the Proposer Unit. -/
theorem exec_addItem {s : State} (hc : carriesCommand s = true) (target : Byte) (it : Item) :
    exec (.addItem (target :: itemBytes it)) s = .next (storeResponse 8 (ownAddItem (target :: itemBytes it) s)) :=
  congrArg _ (takeCommand_owner hc rfl)

/-- Outside DRAFTING ADD ITEM is refused. -/
theorem ownAddItem_not_drafting {s : State} (h : ∀ d, s.prop.activity ≠ .drafting d) (args : List Byte) :
    ownAddItem args s = answer s .badState := by
  unfold ownAddItem
  split
  next d hd => exact absurd hd (h d)
  next => rfl

/-- In DRAFTING the target and the item are those that the characters spell. -/
theorem ownAddItem_drafting {s : State} {d : Draft} (h : s.prop.activity = .drafting d) (target : Byte) (it : Item) :
    ownAddItem (target :: itemBytes it) s = addItemTo d (stationOf? target.toNat) it s := by
  have htarget : charAt (target :: itemBytes it) 0 = target := rfl
  simp only [ownAddItem, h, htarget, itemAt_itemBytes]

/-- Checks 1 and 2: a target of 32 or more, or an invalid item (R57). -/
theorem addItemTo_badArgument {target : Byte} {it : Item} (h : 31 < target.toNat ∨ ¬ validItem it) (d : Draft)
    (s : State) :
    addItemTo d (stationOf? target.toNat) it s = answer s .badArgument := by
  unfold addItemTo
  split
  next => rfl
  next st hst =>
    have hlt : target.toNat < 32 := by
      by_contra hge
      simp [stationOf?, hge] at hst
    have hitem : ¬ validItem it := h.resolve_left (by omega)
    rw [← itemValid_iff, Bool.not_eq_true] at hitem
    simp [hitem]

/-- Check 3, and the draft when it passes (R57). -/
theorem addItemTo_valid {it : Item} (hv : validItem it) (d : Draft) (st : Station) (s : State) :
    addItemTo d (stationOf? st.val) it s =
      if draftHasRoom s.ctl.number st it d.items = true then
        answer (s.setProp { s.prop with activity := .drafting { d with items := addToDraft st it d.items } }) .ok
      else answer s .full := by
  have hst : stationOf? st.val = some st := dif_pos st.isLt
  simp only [addItemTo, hst, (itemValid_iff it).mpr hv]
  cases draftHasRoom s.ctl.number st it d.items <;> rfl

/-- Settles O11: the checks in their order, and the draft by whether an item has the target and channel of the new one. -/
theorem addItemChecksInOrder : Obligations.AddItemChecksInOrder := by
  intro s target it hc
  rw [exec_addItem hc]
  refine ⟨fun hphase => ?outside, fun d hd => ⟨fun hbad => ?bad, fun st hst hv =>
    ⟨fun hsame => ?replaced, fun hother hroom => ?full, fun hother hroom => ?added⟩⟩⟩
  case outside => rw [ownAddItem_not_drafting hphase, storeResponse_answer]
  all_goals rw [ownAddItem_drafting hd]
  case bad => rw [addItemTo_badArgument hbad, storeResponse_answer]
  all_goals rw [hst, addItemTo_valid hv]
  case replaced =>
    rw [if_pos (draftHasRoom_iff.mpr (.inl hsame)), addToDraft_replaces hsame, storeResponse_answer]
  case full =>
    have hfull : ¬ draftHasRoom s.ctl.number st it d.items = true := by
      rw [draftHasRoom_iff]
      rintro (⟨x, hx, hsame⟩ | h)
      · exact hother x hx hsame
      · exact hroom h
    rw [if_neg hfull, storeResponse_answer]
  case added =>
    obtain ⟨front, back, hitems, hins⟩ := insertDraft_eq_append { target := st, item := it } d.items
    refine ⟨front, back, hitems, ?_, fun hord => hins ▸ insertDraft_ordered hord hother⟩
    rw [if_pos (draftHasRoom_iff.mpr (.inr hroom)), addToDraft_inserts hother, hins, storeResponse_answer]

end Sys2Proof.Machine


/-! PROOFS. SUBMIT: its checks in their order, and a self-only set decided within it (R46 to R48, R58 to R60, R72, R73). -/

namespace Sys2Proof.Machine

/-! ### The draft by station (R46, R54) -/

/-- The model's items of a draft for this station are the draft's items for it. -/
theorem selfItems_eq (own : Station) (d : Draft) : selfItems own d.items = itemsFor own d := by
  simp only [selfItems, itemsFor, beq_eq_decide]

/-- A draft's items for a station are as many as it counts for it. -/
theorem length_itemsFor (st : Station) (d : Draft) : (itemsFor st d).length = draftCount st d := by
  rw [itemsFor, List.length_map, draftCount, List.countP_eq_length_filter]

/-- The model's number of items for a target is the draft's count for it. -/
theorem countFor_eq (st : Station) (d : Draft) : countFor st d.items = draftCount st d := by
  simp only [countFor, draftCount, beq_eq_decide]

/-- A check of every target of the proposal to be is a check of every item for another station. -/
theorem targetEntries_all (p : TargetEntry → Bool) (own : Station) (d : Draft) :
    (targetEntries own d.items).all p = (d.items.filter fun x => x.target ≠ own).all fun x =>
      p { station := x.target, count := draftCount x.target d, result := .pending } := by
  rw [Bool.eq_iff_iff]
  simp only [targetEntries, countFor_eq, List.all_map, List.all_eq_true, mem_otherTargets, List.mem_filter,
    decide_eq_true_eq, Function.comp_apply]
  exact ⟨fun h x ⟨hx, hne⟩ => h x.target ⟨hne, x, hx, rfl⟩,
    fun h st ⟨hne, x, hx, hst⟩ => hst ▸ h x ⟨hx, hst ▸ hne⟩⟩

/-- The free-record count is the number of records left (R25). -/
theorem freeRecords_eq (s : State) : freeRecords s = recordsLeft s := by
  have hlen := (List.finRange 4).length_eq_countP_add_countP fun i => s.part.table[i].isSome
  have hnone (i : Fin 4) : s.part.table[i].isNone = !s.part.table[i].isSome := by cases s.part.table[i] <;> rfl
  have hpos : positions = List.finRange 4 := rfl
  rw [List.length_finRange] at hlen
  simp only [freeRecords, recordsLeft, hpos, hnone]
  simp only [Bool.not_eq_true, Bool.decide_eq_false] at hlen
  omega

/-! ### The checks in their order (R58) -/

/-- The status of checks in their order: that of the first that fails, and OK when none does (R58). -/
def firstFailure (checks : List (Bool × Status)) : Status :=
  match checks.find? fun x => !x.1 with
  | some x => x.2
  | none => .ok

@[simp] theorem firstFailure_nil : firstFailure [] = .ok := rfl

@[simp] theorem firstFailure_cons (b : Bool) (status : Status) (rest : List (Bool × Status)) :
    firstFailure ((b, status) :: rest) = if b = false then status else firstFailure rest := by
  cases b <;> rfl

/-- The first failing check gives the status. -/
theorem firstFailure_fails {checks : List (Bool × Status)} {x : Bool × Status}
    (h : checks.find? (fun y => !y.1) = some x) : firstFailure checks = x.2 := by
  rw [firstFailure, h]

/-- Checks that all pass give OK. -/
theorem firstFailure_passes {checks : List (Bool × Status)} (h : checks.all (·.1) = true) :
    firstFailure checks = .ok := by
  have hnone : checks.find? (fun y => !y.1) = none :=
    List.find?_eq_none.mpr fun x hx => by simp [List.all_eq_true.mp h x hx]
  rw [firstFailure, hnone]

/-- No check of SUBMIT fails with OK. -/
theorem submitChecks_status_ne_ok {s : State} {d : Draft} {x : Bool × Status} (h : x ∈ submitChecks s d) :
    x.2 ≠ .ok := by
  have hlist : (submitChecks s d).map (·.2) =
      [.badState, .notLocked, .badArgument, .targetAbsent, .noRoom, .late, .far] := rfl
  have hmem : x.2 ∈ (submitChecks s d).map (·.2) := List.mem_map_of_mem h
  rw [hlist] at hmem
  rintro heq
  exact absurd (heq ▸ hmem) (by decide)

/-- Check 4 reads the member table alone (R58). -/
theorem targetsLocked_eq (s : State) (d : Draft) :
    targetsLocked s (targetEntries s.ctl.number d.items) = (d.items.filter fun x => x.target ≠ s.ctl.number).all fun x =>
      decide (s.memb.entries[x.target].state = .present) && decide (s.memb.entries[x.target].lock = some .locked) := by
  rw [targetsLocked, targetEntries_all]
  simp only [beq_eq_decide]

/-- Check 5 for another target: its reported free slots, when it has reported them, are enough (R58). -/
theorem targetHasRoom_eq (s : State) (t : TargetEntry) :
    targetHasRoom s t = s.memb.entries[t.station].slots.any (t.count ≤ ·) := by
  unfold targetHasRoom
  cases s.memb.entries[t.station].slots <;> rfl

/-- The model's checks are those of R58 in their order. -/
theorem submitStatus_eq (s : State) (d : Draft) : submitStatus s d = firstFailure (submitChecks s d) := by
  simp only [submitStatus, submitChecks, firstFailure_cons, firstFailure_nil, targetsLocked_eq, targetEntries_all,
    targetHasRoom_eq, selfHasRoom, selfItems_eq, length_itemsFor, freeRecords_eq, freeSlots_eq, leadAtLeast,
    Bool.not_eq_true', Bool.not_eq_false', Bool.and_eq_false_iff, decide_eq_false_iff_not, beq_eq_decide,
    List.isEmpty_iff, Int.not_le]
  rfl

/-! ### SUBMIT (R58) -/

/-- SUBMIT without arguments goes to the Proposer Unit. -/
theorem exec_submit {s : State} (hc : carriesCommand s = true) :
    exec (.submit []) s = .next (storeResponse 9 (ownSubmit s)) :=
  congrArg _ (takeCommand_owner hc rfl)

/-- Outside DRAFTING SUBMIT is refused. -/
theorem ownSubmit_not_drafting {s : State} (h : ∀ d, s.prop.activity ≠ .drafting d) :
    ownSubmit s = answer s .badState := by
  unfold ownSubmit
  split
  next d hd => exact absurd hd (h d)
  next => rfl

/-- In DRAFTING SUBMIT is accepted when its checks pass, and else refused with the status of the first that fails. -/
theorem ownSubmit_drafting {s : State} {d : Draft} (h : s.prop.activity = .drafting d) :
    ownSubmit s =
      if firstFailure (submitChecks s d) = .ok then answer (acceptSubmit d s) .ok
      else answer s (firstFailure (submitChecks s d)) := by
  simp only [ownSubmit, h, submitStatus_eq]

/-- Settles O12: the first failing check gives the status, and the answer holds the state as it was. -/
theorem submitRefusedByTheFirstFailingTest : Obligations.SubmitRefusedByTheFirstFailingTest := by
  intro s hc
  rw [exec_submit hc]
  refine ⟨fun hphase => ?outside, fun d x hd hx => ?failing⟩
  case outside => rw [ownSubmit_not_drafting hphase, storeResponse_answer]
  case failing =>
    have hne : x.2 ≠ .ok := submitChecks_status_ne_ok (List.mem_of_find?_eq_some hx)
    rw [ownSubmit_drafting hd, firstFailure_fails hx, if_neg hne, storeResponse_answer]

/-! ### The self record (R46 to R48) -/

/-- The lookup of the undecided self record of a set, at one position. -/
theorem holdsRecord_isOwn (set : SetId) (s : State) (i : Fin 4) :
    holdsRecord (fun r => r.set == set && r.self && r.state != .armed) s i =
      s.part.table[i].any (decide <| isOwn set ·) := by
  rw [holdsRecord_eq]
  simp [isOwn, bne, beq_eq_decide, Bool.and_assoc]

/-- The undecided self record of a set is found at its position. -/
theorem findSelf_isSelfRecord {s : State} {set : SetId} {i : Fin 4} {r : SetRecord} (h : isSelfRecord s set i r) :
    findSelf set s = some i := by
  obtain ⟨hi, hown, hlow⟩ := h
  refine find?_positions_eq_some ?_ fun j hj => ?_
  · simpa only [holdsRecord_isOwn, hi, Option.any_some, decide_eq_true_eq] using hown
  · rw [holdsRecord_isOwn, hlow j hj]

/-- A record put at a position where no other record of its set is held is its set's self record there, when it is one. -/
theorem isSelfRecord_putRecord {s : State} {set : SetId} (h : noRecord s set) {r : SetRecord} (hr : isOwn set r)
    (i : Fin 4) : isSelfRecord (putRecord i (some r) s) set i r := by
  refine ⟨putRecord_same i _ s, hr, fun j hj => ?_⟩
  rw [putRecord_other _ _ (Fin.ne_of_lt hj)]
  cases ht : s.part.table[j] with
  | none => rfl
  | some q =>
    have hq : q.set ≠ set := fun hq => h j (by rw [ht, ← hq]; rfl)
    simp [hq]

/-- A position that is written twice holds what was written last. -/
@[simp] theorem putRecord_putRecord (i : Fin 4) (o o' : Option SetRecord) (s : State) :
    putRecord i o' (putRecord i o s) = putRecord i o' s := by
  simp [putRecord_frame]

/-- Emptying an empty position leaves the state. -/
theorem putRecord_none_self {i : Fin 4} {s : State} (h : s.part.table[i] = none) : putRecord i none s = s := by
  have htable : s.part.table.set i.val none = s.part.table := by
    rw [← h]; exact Vector.set_getElem_self i.isLt
  rw [putRecord_frame, htable]
  rfl

/-- Claims leave the table. -/
theorem claimItems_table (set : SetId) (items : List Item) (s : State) :
    (claimItems set items s).part.table = s.part.table := by
  simp only [claimItems, State.setPart_part]

/-- Claims change the claims alone, channel by channel (R33). -/
theorem claimItems_spec (set : SetId) (items : List Item) (s : State) :
    ∃ claims, claimItems set items s = s.setPart { s.part with claims := claims } ∧
      ∀ c : Fin 16, claims[c] = if items.any (onChannel c) then some set else s.part.claims[c] :=
  ⟨_, rfl, claimItems_claim set items s⟩

/-- Claims and positions are written apart. -/
theorem claimItems_putRecord (set : SetId) (items : List Item) (i : Fin 4) (o : Option SetRecord) (s : State) :
    claimItems set items (putRecord i o s) = putRecord i o (claimItems set items s) := rfl

/-- With no record of the set held, the self record is made at the lowest empty position (R46). -/
theorem createSelf_new {s : State} {set : SetId} (h : noRecord s set) {i : Fin 4} (hi : s.part.table[i] = none)
    (hlow : ∀ j, j < i → s.part.table[j] ≠ none) (items : List Item) :
    createSelf set items s = putRecord i (some (newRecord set items true)) s := by
  simp only [createSelf, findRecord_noRecord h, emptyPos_eq_some hi hlow]

/-- A table that is not full has a lowest empty position (R24). -/
theorem exists_lowest_empty {s : State} (h : 0 < recordsLeft s) :
    ∃ i : Fin 4, s.part.table[i] = none ∧ ∀ j, j < i → s.part.table[j] ≠ none := by
  rw [← freeRecords_eq, freeRecords, List.countP_pos_iff] at h
  obtain ⟨i, -, hi⟩ := h
  obtain ⟨k, hk, hlow⟩ := wellFounded_lt.has_min {k : Fin 4 | s.part.table[k] = none} ⟨i, by simpa using hi⟩
  exact ⟨k, hk, fun j hj hne => hlow j hne hj⟩

/-- A VOTED self record without a queued INQUIRE of its set becomes ARMED, and nothing else changes (R48). -/
theorem armSelf_voted {s : State} {set : SetId} {i : Fin 4} {r : SetRecord} (h : isSelfRecord s set i r)
    (hv : r.state = .voted) (hq : s.line.queue.any (isInquireFor set) = false) :
    armSelf set s = putRecord i (some { r with state := .armed, timer := none }) s := by
  obtain ⟨hi, ⟨hset, -⟩, -⟩ := id h
  have hvoted : holdsRecord (fun r => r.state == .voted) s i = true := by simp [holdsRecord_eq, hi, hv]
  simp only [armSelf, findSelf_isSelfRecord h, if_pos hvoted, armRecord, hi]
  exact withdrawFrame_none (by rw [hset]; exact hq)

/-! ### The self vote (R47, R60) -/

/-- An item's channel is claimed: check 8 of R32 fails. -/
def channelsClash (items : List Item) (s : State) : Bool :=
  (List.finRange 16).any fun c => items.any (onChannel c) && s.part.claims[c].isSome

/-- The self record of a self-only set after its READY vote (R47). -/
def votedSelf (set : SetId) (items : List Item) (epoch : NetTime) : SetRecord :=
  votedRecord (newRecord set items true) items.length epoch none

/-- The self record of a self-only set, once it is ARMED (R48). -/
def armedSelf (set : SetId) (items : List Item) (epoch : NetTime) : SetRecord :=
  { votedSelf set items epoch with state := .armed, timer := none }

theorem isOwn_newRecord (set : SetId) (items : List Item) : isOwn set (newRecord set items true) :=
  ⟨rfl, rfl, by simp [newRecord]⟩

theorem isOwn_votedSelf (set : SetId) (items : List Item) (epoch : NetTime) : isOwn set (votedSelf set items epoch) :=
  ⟨rfl, rfl, by simp [votedSelf, votedRecord]⟩

/-- What SUBMIT has checked leaves check 8 alone to fail in the self vote: SUBMIT asks for the same lock and a longer lead
(R32, R58). -/
theorem selfVote_by_clash {s : State} {epoch : NetTime} (hlock : s.time.lock = .locked)
    (hlead : ((4096 * bitTime s.ctl.rate / 2 : Nat) : Int) ≤ sdiff epoch s.time.now)
    (hfar : sdiff epoch s.time.now ≤ 2147483648) (set : SetId) (items : List Item) :
    firstRefusal (voteTests s (newRecord set items true) items.length epoch) =
      if channelsClash items s then .refused .conflict else .ready := by
  have hvote : ((1024 * bitTime s.ctl.rate / 2 : Nat) : Int) ≤ sdiff epoch s.time.now := by omega
  simp only [voteTests, newRecord, firstRefusal_cons, firstRefusal_nil, hlock, hvote, hfar, channelsClash,
    ← List.not_any_eq_all_not]
  simp

/-- A self-only set with a claimed channel: the record goes as it came, and the set closes ABORTED (R60). -/
theorem decideSelfOnly_clash {s : State} {set : SetId} (hno : noRecord s set) {i : Fin 4} (hi : s.part.table[i] = none)
    (hq : s.line.queue.any (isInquireFor set) = false) {items : List Item} {epoch : NetTime}
    (hv : firstRefusal (voteTests (putRecord i (some (newRecord set items true)) s) (newRecord set items true)
      items.length epoch) = .refused .conflict) :
    decideSelfOnly set items.length epoch (putRecord i (some (newRecord set items true)) s) =
      closeWith (selfOnlyEntry set epoch (.refused .conflict)) s := by
  have hself := findSelf_isSelfRecord (isSelfRecord_putRecord hno (isOwn_newRecord set items) i)
  have hrec := putRecord_same i (some (newRecord set items true)) s
  have hcast : castSelfVote set items.length epoch (putRecord i (some (newRecord set items true)) s) = s := by
    rw [castSelfVote, hself, castVote_refused hrec rfl hq (by simp [hv])]
    exact (putRecord_putRecord i _ none s).trans (putRecord_none_self hi)
  simp only [decideSelfOnly, selfVerdict, hself, voteVerdict_staging hrec rfl, hv, hcast]
  rfl

/-- A self-only set without a claimed channel: the record is ARMED with its channels claimed, and the set closes COMMITTED
(R60). -/
theorem decideSelfOnly_ready {s : State} {set : SetId} (hno : noRecord s set) {i : Fin 4}
    (hq : s.line.queue.any (isInquireFor set) = false) {items : List Item} {epoch : NetTime}
    (hv : firstRefusal (voteTests (putRecord i (some (newRecord set items true)) s) (newRecord set items true)
      items.length epoch) = .ready) :
    decideSelfOnly set items.length epoch (putRecord i (some (newRecord set items true)) s) =
      closeWith (selfOnlyEntry set epoch .ready)
        (putRecord i (some (armedSelf set items epoch)) (claimItems set items s)) := by
  have hself := findSelf_isSelfRecord (isSelfRecord_putRecord hno (isOwn_newRecord set items) i)
  have hrec := putRecord_same i (some (newRecord set items true)) s
  have hcast : castSelfVote set items.length epoch (putRecord i (some (newRecord set items true)) s) =
      putRecord i (some (votedSelf set items epoch)) (claimItems set items s) := by
    rw [castSelfVote, hself, castVote_ready hrec rfl hv, putRecord_putRecord, claimItems_putRecord]
    rfl
  have hclaimed : noRecord (claimItems set items s) set := by simpa only [noRecord, claimItems_table] using hno
  have hvoted := isSelfRecord_putRecord hclaimed (isOwn_votedSelf set items epoch) i
  have harm : armSelf set (putRecord i (some (votedSelf set items epoch)) (claimItems set items s)) =
      putRecord i (some (armedSelf set items epoch)) (claimItems set items s) := by
    rw [armSelf_voted hvoted rfl hq, putRecord_putRecord]
    rfl
  simp only [decideSelfOnly, selfVerdict, hself, voteVerdict_staging hrec rfl, hv, hcast, if_true, harm]

/-! ### The close (R72, R73, R174) -/

/-- A new entry of the decision log, as R73 says it. -/
theorem addLog_eq (entry : LogEntry) (log : List LogEntry) : addLog entry log = loggedWith entry log := by
  have hne : (fun e : LogEntry => e.set != entry.set) = fun e => decide (e.set ≠ entry.set) := by
    funext e; simp [bne, beq_eq_decide]
  simp only [addLog, loggedWith, hne]
  rfl

/-- Each notice is found in its place by its code. -/
theorem allNotices_code (n : Notice) : allNotices[n.code - 1]? = some n := by cases n <;> rfl

/-- A notice other than CAPTURE is pending when its bit is set (R174). -/
theorem isPending_of_ne_capture {n : Notice} (h : n ≠ .capture) (s : State) :
    isPending n s = s.notes.flags.getLsbD (n.code - 1) := by
  unfold isPending
  split
  next => exact absurd rfl h
  next => rfl

/-- The bit of a notice is set in its own mask alone (R142). -/
theorem getLsbD_mask (m n : Notice) : n.mask.getLsbD (m.code - 1) = decide (m = n) := by
  obtain ⟨hlt, -⟩ := List.getElem?_eq_some_iff.mp (allNotices_code n)
  have hcode : n.code - 1 = m.code - 1 ↔ m = n :=
    ⟨fun h => Option.some_injective _ (by rw [← allNotices_code m, ← h, allNotices_code n]), fun h => by rw [h]⟩
  have hbit : n.code - 1 < 11 := hlt
  simp only [Notice.mask, BitVec.getLsbD_twoPow, hbit, hcode, decide_true, Bool.true_and]

/-- A raised notice is pending, with those that were; CAPTURE follows its queue (R174). -/
theorem isPending_raise {m : Notice} (h : m ≠ .capture) (n : Notice) (s : State) :
    isPending m (raise n s) = (isPending m s || decide (m = n)) := by
  rw [isPending_of_ne_capture h, isPending_of_ne_capture h, ← getLsbD_mask]
  exact BitVec.getLsbD_or

/-- What a notice is turns on the Notice Unit and the Capture Unit alone. -/
theorem isPending_congr {s t : State} (hnotes : t.notes = s.notes) (hcapt : t.capt = s.capt) (n : Notice) :
    isPending n t = isPending n s := by
  simp only [isPending, hnotes, hcapt]

/-- A raised notice is pending (R174). -/
theorem isPending_raised {n : Notice} (h : n ≠ .capture) {s t : State} (hnotes : t.notes = (raise n s).notes)
    (hcapt : t.capt = s.capt) : isPending n t = true := by
  rw [isPending_congr hnotes hcapt, isPending_raise h, decide_eq_true rfl, Bool.or_true]

/-- A raised notice leaves every other as it was (R174). -/
theorem raisesOnly_raise {n : Notice} {s t : State} (hnotes : t.notes = (raise n s).notes) (hcapt : t.capt = s.capt) :
    raisesOnly [n] s t := by
  intro m hm
  rw [isPending_congr hnotes hcapt]
  by_cases hc : m = .capture
  · subst hc; rfl
  · rw [isPending_raise hc, decide_eq_false (mt List.mem_singleton.mpr hm), Bool.or_false]

/-- A command that closes the set writes the Proposer Unit, the notices and the port alone (R72). -/
theorem withResponse_closeWith (entry : LogEntry) (s : State) (code : Byte) (status : Status) (results : List Byte) :
    withResponse (closeWith entry s) code status results =
      { s with
        prop := { s.prop with activity := .idle, log := loggedWith entry s.prop.log }
        notes := (raise .outcome s).notes
        port := { stored := { code := code, status := status, results := results }, transaction := none } } := by
  rw [← addLog_eq]; rfl

/-! ### A self-only SUBMIT (R59, R60) -/

/-- SUBMIT's checks, as far as a self-only set turns on them (R58). -/
theorem submitChecks_self_only {s : State} {d : Draft} (h : (submitChecks s d).all (·.1) = true)
    (hself : ∀ x ∈ d.items, x.target = s.ctl.number) :
    s.time.lock = .locked ∧ itemsFor s.ctl.number d ≠ [] ∧ 0 < recordsLeft s ∧
      ((4096 * bitTime s.ctl.rate / 2 : Nat) : Int) ≤ sdiff d.epoch s.time.now ∧
      sdiff d.epoch s.time.now ≤ 2147483648 := by
  have hitems : d.items.filter (fun x => x.target = s.ctl.number) = d.items :=
    List.filter_eq_self.mpr fun x hx => decide_eq_true (hself x hx)
  simp only [submitChecks, List.all_cons, List.all_nil, Bool.and_eq_true, Bool.or_eq_true, decide_eq_true_eq,
    Bool.not_eq_true', List.isEmpty_eq_false_iff, beq_iff_eq] at h
  obtain ⟨-, hlock, hsome, -, ⟨-, hroom⟩, hlead, hfar, -⟩ := h
  have hne : itemsFor s.ctl.number d ≠ [] := by simpa [itemsFor, hitems] using hsome
  have hcount : draftCount s.ctl.number d ≠ 0 := by rwa [← length_itemsFor, Ne, List.length_eq_zero_iff]
  exact ⟨hlock, hne, (hroom.resolve_left hcount).1, hlead, hfar⟩

/-- The sequence counter advances at the acceptance of a SUBMIT (R59). -/
def sequenceAdvanced (s : State) : State := s.setProp { s.prop with sequence := nextSequence s.prop.sequence }

/-- The acceptance of a self-only SUBMIT makes the self record at the lowest empty position and decides (R59, R60). -/
theorem acceptSubmit_self_only {s : State} {d : Draft} (hself : ∀ x ∈ d.items, x.target = s.ctl.number)
    (hne : itemsFor s.ctl.number d ≠ []) (hno : noRecord s { proposer := s.ctl.number, seq := s.prop.sequence })
    {i : Fin 4} (hi : s.part.table[i] = none) (hlow : ∀ j, j < i → s.part.table[j] ≠ none) :
    acceptSubmit d s =
      let set : SetId := { proposer := s.ctl.number, seq := s.prop.sequence }
      let items := itemsFor s.ctl.number d
      decideSelfOnly set items.length d.epoch (putRecord i (some (newRecord set items true)) (sequenceAdvanced s)) := by
  have hremote : remoteItems s.ctl.number d.items = [] :=
    List.filter_eq_nil_iff.mpr fun x hx => by simp [hself x hx]
  have hseq : s.setProp { s.prop with sequence := nextSequence s.prop.sequence } = sequenceAdvanced s := rfl
  have hmade := createSelf_new (s := sequenceAdvanced s) hno hi hlow
  simp only [acceptSubmit, hseq, hremote, selfItems_eq, List.isEmpty_iff, hne, if_true, if_false, hmade]

/-- Settles O14: the self record is made, votes and is ARMED or goes, by whether a channel is claimed; then the set
closes. -/
theorem selfOnlySubmitDecidesAtOnce : Obligations.SelfOnlySubmitDecidesAtOnce := by
  intro s d hc hd hchecks hself set hno hq items clash
  obtain ⟨hlock, hne, hleft, hlead, hfar⟩ := submitChecks_self_only hchecks hself
  obtain ⟨i, hi, hlow⟩ := exists_lowest_empty hleft
  have hqueue : (sequenceAdvanced s).line.queue.any (isInquireFor set) = false :=
    List.any_eq_false.mpr fun f hf => by simp [hq f hf]
  have hvote := selfVote_by_clash
    (s := putRecord i (some (newRecord set items true)) (sequenceAdvanced s)) hlock hlead hfar set items
  have hclash : channelsClash items (putRecord i (some (newRecord set items true)) (sequenceAdvanced s)) = clash := rfl
  rw [hclash] at hvote
  rw [exec_submit hc, ownSubmit_drafting hd, if_pos (firstFailure_passes hchecks),
    acceptSubmit_self_only hself hne hno hi hlow, storeResponse_answer]
  cases hcl : clash with
  | true =>
    rw [hcl, if_pos rfl] at hvote
    rw [decideSelfOnly_clash (s := sequenceAdvanced s) hno hi hqueue hvote, withResponse_closeWith]
    exact ⟨_, rfl, isPending_raised (by decide) rfl rfl, rfl, rfl, rfl, rfl, rfl, rfl, rfl, rfl, rfl, rfl, rfl,
      raisesOnly_raise rfl rfl, rfl, fun _ => rfl, nofun⟩
  | false =>
    rw [hcl, if_neg Bool.false_ne_true] at hvote
    obtain ⟨claims, hclaimed, hclaims⟩ := claimItems_spec set items (sequenceAdvanced s)
    rw [decideSelfOnly_ready (s := sequenceAdvanced s) hno hqueue hvote, hclaimed, withResponse_closeWith]
    exact ⟨_, rfl, isPending_raised (by decide) rfl rfl, rfl, rfl, rfl, rfl, rfl, rfl, rfl, rfl, rfl, rfl, rfl,
      raisesOnly_raise rfl rfl, rfl, nofun, fun _ => ⟨i, hi, hlow, rfl, hclaims⟩⟩

end Sys2Proof.Machine


/-! PROOFS. REPLY, INQUIRE and MISSED at the proposer: the result that a REPLY in its slot sets, the answer from the decision
log, and the result that a MISSED marks in it (R65, R75, R76, R104). -/

namespace Sys2Proof.Machine

/-! ### REPLY (R65, R104) -/

/-- A REPLY, its sender's free slots reported, by its destination (R104, R128). -/
theorem exec_reply {s : State} {src : Station} {set : SetId} {verdict : Verdict} {slots : Byte} (h : memberReceives s src)
    (hseq : set.seq ≠ 0) (hslots : slots.toNat ≤ 32) (dest : Station) :
    exec (.reply src dest set verdict slots) s =
      .next (ifAddressed dest (replyEffect src set verdict) (reportSlots src slots.toNat (delivered src s))) :=
  have hform : (Body.reply set verdict slots).formed src = true := by
    rw [Body.formed, SetId.formed, decide_eq_true hslots, bne_iff_ne.mpr hseq]; rfl
  congrArg _ (receiveFrame_delivered h hform _)

/-- The start edge lies in slot k of the window, in the slots' own lengths (R64, R65). -/
theorem inSlot_iff {s : State} {p : Proposal} {k : Nat} :
    inSlot s p k = true ↔ ∃ edge start, s.line.frameStart = some edge ∧ p.windowStart = some start ∧
      start + 128 * k * bitTime s.ctl.rate ≤ edge ∧ edge < start + 128 * (k + 1) * bitTime s.ctl.rate := by
  unfold inSlot
  split
  next edge start hedge hstart =>
    simp only [hedge, hstart, Bool.and_eq_true, decide_eq_true_eq, Option.some_inj, exists_and_left, exists_eq_left']
    rfl
  next hno =>
    refine iff_of_false Bool.false_ne_true ?_
    rintro ⟨edge, start, hedge, hstart, -⟩
    exact hno edge start hedge hstart

/-- A station stands first in a target list at its place. -/
theorem targetPos_eq_some {st : Station} {targets : List TargetEntry} {k : Nat} :
    targetPos st targets = some k ↔ ∃ e, targets[k]? = some e ∧ e.station = st ∧
      ∀ (j : Nat) (f : TargetEntry), j < k → targets[j]? = some f → f.station ≠ st := by
  rw [targetPos, List.findIdx?_eq_some_iff_getElem]
  constructor
  · rintro ⟨hk, hst, hfirst⟩
    refine ⟨targets[k], List.getElem?_eq_getElem hk, by simpa using hst, fun j f hj hf => ?_⟩
    obtain ⟨-, rfl⟩ := List.getElem?_eq_some_iff.mp hf
    simpa using hfirst j hj
  · rintro ⟨e, hk, hst, hfirst⟩
    obtain ⟨hlt, rfl⟩ := List.getElem?_eq_some_iff.mp hk
    exact ⟨hlt, by simpa using hst, fun j hj => by
      simpa using hfirst j _ hj (List.getElem?_eq_getElem (hj.trans hlt))⟩

/-- A REPLY is taken at its source's place in the target list, in VOTING for the proposal's own set, in that place's slot and
while the result is PENDING (R65). -/
theorem replyTaken_eq_some {s : State} {src : Station} {set : SetId} {k : Nat} :
    replyTaken s src set = some k ↔ ∃ p e, s.prop.activity = .active p ∧ targetPos src p.targets = some k ∧
      p.targets[k]? = some e ∧ p.phase = .voting ∧ p.set = set ∧ inSlot s p k = true ∧ e.result = .pending := by
  unfold replyTaken
  split
  next p hp =>
    split
    next j hj =>
      rw [Option.ite_none_right_eq_some, Option.map_eq_some_iff, Option.some_inj]
      constructor
      · rintro ⟨⟨hphase, hset, hslot, e, he, hres⟩, rfl⟩
        exact ⟨p, e, hp, hj, he, hphase, hset, hslot, hres⟩
      · rintro ⟨q, e, hq, hk, he, hphase, hset, hslot, hres⟩
        obtain rfl : p = q := Activity.active.inj (hp.symm.trans hq)
        obtain rfl : j = k := Option.some_injective _ (hj.symm.trans hk)
        exact ⟨⟨hphase, hset, hslot, e, he, hres⟩, rfl⟩
    next hnone =>
      refine iff_of_false (by simp) ?_
      rintro ⟨q, e, hq, hk, -⟩
      obtain rfl : p = q := Activity.active.inj (hp.symm.trans hq)
      rw [hnone] at hk
      cases hk
  next hno =>
    refine iff_of_false (by simp) ?_
    rintro ⟨p, e, hp, -⟩
    exact hno p hp

/-- A REPLY that is taken sets its target's result and nothing else (R65). -/
theorem replyEffect_taken {s : State} {src : Station} {set : SetId} {k : Nat} (h : replyTaken s src set = some k)
    {p : Proposal} (hp : s.prop.activity = .active p) {e : TargetEntry} (he : p.targets[k]? = some e) (verdict : Verdict) :
    replyEffect src set verdict s = s.setProp { s.prop with
      activity := .active { p with targets := p.targets.set k { e with result := resultOf verdict } } } := by
  obtain ⟨hk, rfl⟩ := List.getElem?_eq_some_iff.mp he
  simp only [replyEffect, h, mapProposal, hp, List.modify_eq_set_get _ hk, List.get_eq_getElem]

/-- Any other REPLY to this station is counted (R65). -/
theorem replyEffect_not_taken {s : State} {src : Station} {set : SetId} (h : replyTaken s src set = none)
    (verdict : Verdict) : replyEffect src set verdict s = oneAnomaly s := by
  simp only [replyEffect, h, countAnomaly_eq]

/-- Settles O33: the free slots reported whatever the destination, then the result or the count, by whether the REPLY is
taken. -/
theorem replySetsItsTargetsResult : Obligations.ReplySetsItsTargetsResult := by
  intro s src dest set verdict slots hm hseq hslots v entries u
  have hexec := exec_reply (verdict := verdict) hm hseq hslots dest
  have hreport : reportSlots src slots.toNat (delivered src s) = u := rfl
  rw [hreport] at hexec
  rw [hexec]
  refine ⟨fun hd => ?other, fun p k e edge start hd hp hphase hset hk hst hfirst hres hedge hstart hlow hhigh => ?taken,
    fun hd hnot => ?counted⟩
  case other => exact congrArg _ (if_neg hd)
  all_goals
    subst hd
    refine congrArg _ ((if_pos rfl).trans ?_)
  case taken =>
    have hslot : inSlot u p k = true := inSlot_iff.mpr ⟨edge, start, hedge, hstart, hlow, hhigh⟩
    have htaken : replyTaken u src set = some k := replyTaken_eq_some.mpr
      ⟨p, e, hp, targetPos_eq_some.mpr ⟨e, hk, hst, hfirst⟩, hk, hphase, hset, hslot, hres⟩
    exact replyEffect_taken htaken hp hk verdict
  case counted =>
    have hnone : replyTaken u src set = none := by
      rw [Option.eq_none_iff_forall_ne_some]
      intro k htaken
      obtain ⟨p, e, hp, hpos, hk, hphase, hset, hslot, hres⟩ := replyTaken_eq_some.mp htaken
      obtain ⟨e', hk', hst, -⟩ := targetPos_eq_some.mp hpos
      obtain rfl : e' = e := Option.some_injective _ (hk'.symm.trans hk)
      obtain ⟨edge, start, hedge, hstart, hlow, hhigh⟩ := inSlot_iff.mp hslot
      rcases hnot p k e' hp hk hst with h | h | h | h
      · exact h hphase
      · exact h hset
      · exact h hres
      · rcases h edge start hedge hstart with hbefore | hafter
        · exact Nat.not_le.mpr hbefore hlow
        · exact Nat.not_lt.mpr hafter hhigh
    exact replyEffect_not_taken hnone verdict

/-! ### INQUIRE (R75) -/

/-- An INQUIRE, by its destination (R128). -/
theorem exec_inquire {s : State} {src : Station} {set : SetId} (h : memberReceives s src) (hseq : set.seq ≠ 0)
    (dest : Station) :
    exec (.inquire src dest set) s = .next (ifAddressed dest (inquireEffect src set) (delivered src s)) :=
  have hform : (Body.inquire set).formed src = true := bne_iff_ne.mpr hseq
  congrArg _ (receiveFrame_delivered h hform _)

/-- The open proposal has a set id. -/
theorem isOpenSet_iff {set : SetId} {s : State} :
    isOpenSet set s = true ↔ ∃ p, s.prop.activity = .active p ∧ p.set = set := by
  unfold isOpenSet
  split
  next p hp => simp [hp]
  next hno => simpa using fun p hp _ => hno p hp

/-- An INQUIRE for a set of another proposer is counted (R75). -/
theorem inquireEffect_foreign {s : State} {set : SetId} (h : set.proposer ≠ s.ctl.number) (src : Station) :
    inquireEffect src set s = oneAnomaly s := if_pos h

/-- An INQUIRE for the open proposal is not answered (R75). -/
theorem inquireEffect_open {s : State} {set : SetId} (h : set.proposer = s.ctl.number) {p : Proposal}
    (hp : s.prop.activity = .active p) (hset : p.set = set) (src : Station) : inquireEffect src set s = s := by
  rw [inquireEffect, if_neg (not_not.mpr h), if_pos (isOpenSet_iff.mpr ⟨p, hp, hset⟩)]

/-- Any other INQUIRE is answered with the outcome that the log gives, when the queue has room (R75). -/
theorem inquireEffect_answered {s : State} {set : SetId} (h : set.proposer = s.ctl.number)
    (hno : ∀ p, s.prop.activity = .active p → p.set ≠ set) {outcome : DecisionOutcome}
    (hout : loggedOutcome set s.prop.log = outcome) (src : Station) :
    inquireEffect src set s =
      if s.line.queue.length < 12 then
        s.setLine { s.line with
          queue := insertFrame { src := s.ctl.number, dest := some src, body := .decision set outcome } s.line.queue }
      else s := by
  have hopen : ¬ isOpenSet set s = true := fun hopen =>
    let ⟨p, hp, hset⟩ := isOpenSet_iff.mp hopen
    hno p hp hset
  rw [inquireEffect, if_neg (not_not.mpr h), if_neg hopen, hout, offer, queueHasRoom]
  simp only [decide_eq_true_eq]
  rfl

/-- The outcome of a logged set (R75). -/
theorem loggedOutcome_entry {set : SetId} {log : List LogEntry} {e : LogEntry}
    (h : log.find? (fun x => x.set == set) = some e) :
    loggedOutcome set log = if e.abort.isSome then .aborted else .committed := by
  rw [loggedOutcome, h]

/-- A set without an entry is not found in the log. -/
theorem find?_set_eq_none {set : SetId} {log : List LogEntry} (h : ∀ e ∈ log, e.set ≠ set) :
    log.find? (fun x => x.set == set) = none :=
  List.find?_eq_none.mpr fun e he => by simpa using h e he

/-- The outcome of a set that the log does not hold (R75). -/
theorem loggedOutcome_unknown {set : SetId} {log : List LogEntry} (h : ∀ e ∈ log, e.set ≠ set) :
    loggedOutcome set log = .unknown := by
  rw [loggedOutcome, find?_set_eq_none h]

/-! ### MISSED (R76) -/

/-- A MISSED, by its destination (R128). -/
theorem exec_missed {s : State} {src : Station} {set : SetId} (h : memberReceives s src) (hseq : set.seq ≠ 0)
    (dest : Station) :
    exec (.missed src dest set) s = .next (ifAddressed dest (missedEffect src set) (delivered src s)) :=
  have hform : (Body.missed set).formed src = true := bne_iff_ne.mpr hseq
  congrArg _ (receiveFrame_delivered h hform _)

/-- In a log without a repeated set id, an entry is the one of its set (R73). -/
theorem eq_of_mem_log {log : List LogEntry} (hn : (log.map (·.set)).Nodup) {e x : LogEntry} (he : e ∈ log)
    (hx : x ∈ log) (h : x.set = e.set) : x = e := List.inj_on_of_nodup_map hn hx he h

/-- In a log without a repeated set id, an entry is found by its set (R73). -/
theorem find?_set_eq_some {log : List LogEntry} (hn : (log.map (·.set)).Nodup) {e : LogEntry} (he : e ∈ log) :
    log.find? (fun x => x.set == e.set) = some e := by
  obtain ⟨x, hx⟩ := Option.isSome_iff_exists.mp 
    (List.find?_isSome (p := fun x => x.set == e.set) |>.mpr ⟨e, he, beq_self_eq_true e.set⟩)
  have hset : x.set = e.set := by simpa using List.find?_some hx
  rw [hx, eq_of_mem_log hn he (List.mem_of_find?_eq_some hx) hset]

/-- In a log without a repeated set id, the mark is made in the one entry of the set (R76). -/
theorem markMissed_eq {log : List LogEntry} (hn : (log.map (·.set)).Nodup) {e : LogEntry} (he : e ∈ log) (src : Station) :
    markMissed src e.set log = log.map fun y =>
      if y = e then
        { e with targets := e.targets.map fun t => if t.station = src then { t with result := .missed } else t }
      else y := by
  refine List.map_congr_left fun y hy => ?_
  by_cases hset : y.set = e.set
  · obtain rfl := eq_of_mem_log hn he hy hset
    rw [if_pos rfl, if_pos rfl]
  · rw [if_neg hset, if_neg (fun h => hset (congrArg _ h))]

/-- A MISSED for a set of another proposer is counted (R76). -/
theorem missedEffect_foreign {s : State} {set : SetId} (h : set.proposer ≠ s.ctl.number) (src : Station) :
    missedEffect src set s = oneAnomaly s := if_pos h

/-- A MISSED for a set that the log does not hold is counted (R76). -/
theorem missedEffect_unknown {s : State} {set : SetId} (h : set.proposer = s.ctl.number)
    (hno : ∀ e ∈ s.prop.log, e.set ≠ set) (src : Station) : missedEffect src set s = oneAnomaly s := by
  rw [missedEffect, if_neg (not_not.mpr h), find?_set_eq_none hno]
  rfl

/-- The result that an entry has for a station among its targets. -/
theorem loggedResult_target {src : Station} {e : LogEntry} {x : TargetEntry}
    (h : e.targets.find? (fun y => y.station == src) = some x) : loggedResult src e = some x.result := by
  rw [loggedResult, h, Option.map_some]

/-- An entry has no result for a station that is not among its targets. -/
theorem loggedResult_none {src : Station} {e : LogEntry} (h : ∀ x ∈ e.targets, x.station ≠ src) :
    loggedResult src e = none := by
  rw [loggedResult, List.find?_eq_none.mpr fun x hx => by simpa using h x hx, Option.map_none]

/-- A MISSED for a logged set, by the result that the entry has for its source (R76). -/
theorem missedEffect_logged {s : State} (hn : (s.prop.log.map (·.set)).Nodup) {e : LogEntry} (he : e ∈ s.prop.log)
    (h : e.set.proposer = s.ctl.number) (src : Station) :
    missedEffect src e.set s =
      if loggedResult src e = some .ready then
        raise .lateReport (s.setProp { s.prop with log := markMissed src e.set s.prop.log })
      else if loggedResult src e = some .missed then s
      else oneAnomaly s := by
  rw [missedEffect, if_neg (not_not.mpr h), find?_set_eq_some hn he]
  simp only
  split
  next hr => rw [if_pos hr]
  next hr => rw [if_neg (by simp [hr]), if_pos hr]
  next hready hmissed => rw [if_neg hready, if_neg hmissed]; rfl

/-- Settles O34: INQUIRE by its set and the log's outcome for it, MISSED by the log's entry and its source's result there. -/
theorem inquireAndMissedMeetTheLog : Obligations.InquireAndMissedMeetTheLog := by
  intro s src set hm hseq u own answered
  simp only [exec_inquire hm hseq, exec_missed hm hseq]
  refine ⟨fun dest hd => ?inquireOther, fun hp => ?inquireForeign, fun hp =>
    ⟨fun p hact hset => ?inquireOpen, fun hno => ⟨fun e he => ?inquireLogged, fun hnone => ?inquireUnknown⟩⟩,
    fun hn => ⟨fun dest hd => ?missedOther, fun hp => ?missedForeign, fun hp =>
      ⟨fun hnone => ?missedUnknown, fun e he hset =>
        ⟨fun hnot => ?notTarget, fun x hx => ⟨fun hres => ?again, fun hready hmissed => ?unready, fun hres => ?marked⟩⟩⟩⟩⟩
  case inquireOther => rw [ifAddressed_other hd]
  case missedOther => rw [ifAddressed_other hd]
  all_goals
    rw [ifAddressed_own]
    refine congrArg _ ?_
  case inquireForeign => exact inquireEffect_foreign (s := u) hp src
  case inquireOpen => exact inquireEffect_open (s := u) hp hact hset src
  case inquireLogged => exact inquireEffect_answered (s := u) hp hno (loggedOutcome_entry he) src
  case inquireUnknown => exact inquireEffect_answered (s := u) hp hno (loggedOutcome_unknown hnone) src
  case missedForeign => exact missedEffect_foreign (s := u) hp src
  case missedUnknown => exact missedEffect_unknown (s := u) hp hnone src
  all_goals
    subst hset
    refine (missedEffect_logged (s := u) hn he hp src).trans ?_
  case notTarget => simp [loggedResult_none hnot]
  case again => simp [loggedResult_target hx, hres]
  case unready => simp [loggedResult_target hx, hready, hmissed]
  case marked =>
    rw [if_pos (by rw [loggedResult_target hx, hres]), markMissed_eq (log := u.prop.log) hn he]
    rfl

end Sys2Proof.Machine


/-! PROOFS. READ TIME, READ STATUS and READ MEMBER: what they report, and that they change the stored response alone (R25, R96,
R101, R111, R172). -/

namespace Sys2Proof.Machine

/-! ### The commands and their owners (R169) -/

/-- READ TIME without arguments goes to the Time Unit. -/
theorem exec_readTime {s : State} (hc : carriesCommand s = true) :
    exec (.readTime []) s = .next (storeResponse 14 (ownReadTime s)) :=
  congrArg _ (takeCommand_owner hc rfl)

/-- READ STATUS without arguments goes to the Station Controller. -/
theorem exec_readStatus {s : State} (hc : carriesCommand s = true) :
    exec (.readStatus []) s = .next (storeResponse 18 (ownReadStatus s)) :=
  congrArg _ (takeCommand_owner hc rfl)

/-- READ MEMBER with its one argument goes to the Membership Unit. -/
theorem exec_readMember {s : State} (hc : carriesCommand s = true) (b : Byte) :
    exec (.readMember [b]) s = .next (storeResponse 15 (ownReadMember [b] s)) :=
  congrArg _ (takeCommand_owner hc rfl)

/-! ### READ STATUS (R172) -/

/-- The eight counters in their order, two characters each. -/
theorem counterBytes_eq (c : Counters) :
    counterBytes c =
      beBytes 2 c.crcErrors ++ beBytes 2 c.malformed ++ beBytes 2 c.unknownKind ++ beBytes 2 c.arbitrationLosses ++
        beBytes 2 c.bitErrors ++ beBytes 2 c.breaks ++ beBytes 2 c.mutes ++ beBytes 2 c.anomalies := rfl

/-- The status characters, with the free counts of R25. -/
theorem statusBytes_eq (s : State) :
    statusBytes s =
      [byte s.ctl.state.code, byte s.ctl.number.val, byte s.ctl.rate.code, byte s.ctl.auto.toNat] ++
        counterBytes s.line.counters ++ [byte (recordsLeft s), byte (slotsLeft s), byte s.prop.activity.code] ++
        beBytes 2 s.capt.totalLost := by
  rw [statusBytes, freeRecords_eq, freeSlots_eq]

/-! ### READ MEMBER (R101, R111) -/

/-- A station number is an index below 32. -/
theorem stationOf?_eq_indexArg? (n : Nat) : stationOf? n = indexArg? 32 n := rfl

/-- READ MEMBER of a station reports its entry and the announcement. -/
theorem ownReadMember_ofNat (st : Station) (s : State) :
    ownReadMember [BitVec.ofNat 8 st.val] s =
      { state := s, status := .ok, results := memberBytes st.val (reportedEntry s st) s.memb.announced } := by
  simp only [ownReadMember, charAt_singleton_zero, stationOf?_eq_indexArg?, indexArg?_ofNat (by decide : 32 ≤ 256)]

/-- READ MEMBER of a number above 31 is refused. -/
theorem ownReadMember_refused {b : Byte} (h : 31 < b.toNat) (s : State) :
    ownReadMember [b] s = answer s .badArgument := by
  simp only [ownReadMember, charAt_singleton_zero, stationOf?_eq_indexArg?, indexArg?_none (n := 32) h]

/-- The SELF entry reads with this station's own lock state and free counts (R25, R101). -/
theorem reportedEntry_self {s : State} {st : Station}
    (h : s.memb.entries[st] = { MemberEntry.initial with state := .self }) :
    reportedEntry s st =
      { MemberEntry.initial with
        state := .self, lock := some s.time.lock, records := some (recordsLeft s), slots := some (slotsLeft s) } := by
  rw [reportedEntry, h, if_pos rfl, selfEntryNow, freeRecords_eq, freeSlots_eq]

/-- Any other entry reads as it stands. -/
theorem reportedEntry_other {s : State} {st : Station} (h : s.memb.entries[st].state ≠ .self) :
    reportedEntry s st = s.memb.entries[st] :=
  if_neg h

/-- An optional lock state reads as its code. -/
theorem lockOr0_eq (l : Option LockState) : lockOr0 l = (l.map LockState.code).getD 0 := by cases l <;> rfl

/-- The layout of a READ MEMBER: the station, its state, the bits of the fields present, the missed intervals, and the
fields. -/
theorem memberBytes_eq (st : Nat) (e : MemberEntry) (announced : Bool) :
    memberBytes st e announced =
      [byte st, byte e.state.code,
          byte (e.lastHeard.isSome.toNat + 2 * e.lock.isSome.toNat + 4 * e.records.isSome.toNat +
            8 * e.slots.isSome.toNat),
          byte e.missed] ++
        timeBytes (e.lastHeard.getD 0) ++
        [byte ((e.lock.map LockState.code).getD 0), byte (e.records.getD 0), byte (e.slots.getD 0),
          byte announced.toNat] := by
  simp only [memberBytes, weight_eq_mul, one_mul, lockOr0_eq, timeOr0]

/-- The number 0 in characters. -/
theorem beBytes_zero (n : Nat) : beBytes n 0 = List.replicate n 0 := by
  induction n with
  | zero => rfl
  | succ n ih => rw [beBytes, ih, Nat.zero_div, List.replicate_succ]; rfl

/-- The layout of the SELF entry: last-heard absent, the other three fields present, and no missed interval (R101). -/
theorem memberBytes_self (st records slots : Nat) (lock : LockState) (announced : Bool) :
    memberBytes st
        { MemberEntry.initial with state := .self, lock := some lock, records := some records, slots := some slots }
        announced =
      [byte st, 3, 14, 0, 0, 0, 0, 0, 0, 0, byte lock.code, byte records, byte slots, byte announced.toNat] := by
  have htime : timeBytes ((none : Option NetTime).getD 0) = List.replicate 6 0 := beBytes_zero 6
  rw [memberBytes_eq, MemberEntry.initial, htime]
  rfl

/-! ### The obligation -/

/-- Settles O16: each owner's answer, stored as the response, and its layout; a member entry by whether it is SELF. -/
theorem timeStatusAndMemberReads : Obligations.TimeStatusAndMemberReads := by
  intro s hc
  refine ⟨?time, ?status, fun st hself => ?self, fun st e he hother => ?other, fun b hb => ?badMember⟩
  case time => rw [exec_readTime hc, ownReadTime, storeResponse_mk]; rfl
  case status =>
    rw [exec_readStatus hc, ownReadStatus, storeResponse_mk, statusBytes_eq, counterBytes_eq]
    simp only [List.append_assoc, byte]
  case self =>
    rw [exec_readMember hc, ownReadMember_ofNat, storeResponse_mk, reportedEntry_self hself, memberBytes_self]
    rfl
  case other =>
    subst he
    rw [exec_readMember hc, ownReadMember_ofNat, storeResponse_mk, reportedEntry_other hother, memberBytes_eq]
    rfl
  case badMember => rw [exec_readMember hc, ownReadMember_refused hb, storeResponse_answer]

end Sys2Proof.Machine


/-! PROOFS. Pending and enabled notices, the attention line, READ NOTICE and READ CAPTURE (R142, R150, R151, R174, R176, R178). -/

namespace Sys2Proof.Machine

/-! ### The notices in their order (R174) -/

/-- Every notice is among the eleven. -/
theorem mem_allNotices (n : Notice) : n ∈ allNotices := List.mem_of_getElem? (allNotices_code n)

/-- The eleven notices stand in the order of their codes, the most urgent first. -/
theorem allNotices_pairwise_code : allNotices.Pairwise fun m n => m.code < n.code := by decide

/-! ### Pending, enabled, ATTN (R151, R174, R178) -/

/-- CAPTURE is pending exactly while the capture queue holds a record (R151). -/
theorem isPending_capture {s : State} : isPending .capture s = true ↔ s.capt.queue ≠ [] := by simp [isPending]

/-- Outside a hard reset, ATTN is asserted exactly while some notice is pending and enabled (R178). -/
theorem attn_iff {s : State} (h : s.ctl.resetting = false) :
    attn s = true ↔ ∃ n : Notice, isPending n s = true ∧ isEnabled n s = true := by
  simp [attn, h, mem_allNotices]

/-! ### The most urgent notice (R176) -/

/-- The first of the eleven that is pending and enabled is the one with the lowest code. -/
theorem urgentNotice_eq_some {s : State} {n : Notice} (hp : isPending n s = true) (he : isEnabled n s = true)
    (hlow : ∀ m : Notice, m.code < n.code → (isPending m s && isEnabled m s) = false) : urgentNotice s = some n := by
  obtain ⟨before, after, hsplit⟩ := List.append_of_mem (mem_allNotices n)
  have hcodes := allNotices_pairwise_code
  rw [hsplit, List.pairwise_append] at hcodes
  obtain ⟨-, -, hbefore⟩ := hcodes
  refine List.find?_eq_some_iff_append.mpr ⟨by rw [hp, he]; rfl, before, after, hsplit, fun m hm => ?_⟩
  rw [hlow m (hbefore m hm n List.mem_cons_self)]
  rfl

/-- With no notice pending and enabled there is none to report. -/
theorem urgentNotice_eq_none {s : State} (h : ∀ m : Notice, (isPending m s && isEnabled m s) = false) :
    urgentNotice s = none :=
  List.find?_eq_none.mpr fun m _ => by simp [h m]

/-! ### READ NOTICE (R142, R176) -/

/-- READ NOTICE without arguments goes to the Notice Unit. -/
theorem exec_readNotice {s : State} (hc : carriesCommand s = true) :
    exec (.readNotice []) s = .next (storeResponse 13 (ownReadNotice s)) :=
  congrArg _ (takeCommand_owner hc rfl)

/-- Reading a notice clears its flag and nothing else, and CAPTURE's reading clears nothing (R176). -/
theorem afterReading_some (n : Notice) (s : State) :
    afterReading (some n) s =
      if n = .capture then s
      else s.setNotes { s.notes with flags := s.notes.flags &&& ~~~(BitVec.twoPow 11 (n.code - 1)) } := by
  cases n <;> rfl

/-- The layout of a notice: its code, and the signed value that STEP alone carries (R142). -/
theorem noticeBytes_some (n : Notice) (lastStep : Option Int) :
    noticeBytes (some n) lastStep =
      byte n.code :: beBytes 6 (if n = .step then BitVec.ofInt 48 (lastStep.getD 0) else 0).toNat := by
  cases n <;> rfl

/-- The layout with no notice to report: code 0 and value 0 (R142, R176). -/
theorem noticeBytes_none (lastStep : Option Int) : noticeBytes none lastStep = [0, 0, 0, 0, 0, 0, 0] := by
  have hvalue : signedBytes 0 = List.replicate 6 0 := beBytes_zero 6
  rw [noticeBytes, hvalue]
  rfl

/-- READ NOTICE reports the most urgent notice and clears its flag (R176). -/
theorem ownReadNotice_some {s : State} {n : Notice} (h : urgentNotice s = some n) :
    ownReadNotice s =
      { state := if n = .capture then s
          else s.setNotes { s.notes with flags := s.notes.flags &&& ~~~(BitVec.twoPow 11 (n.code - 1)) },
        status := .ok,
        results := byte n.code ::
          beBytes 6 (if n = .step then BitVec.ofInt 48 (s.time.lastStep.getD 0) else 0).toNat } := by
  rw [ownReadNotice, h, afterReading_some, noticeBytes_some]

/-- READ NOTICE with nothing to report reads code 0 and clears nothing (R176). -/
theorem ownReadNotice_none {s : State} (h : urgentNotice s = none) :
    ownReadNotice s = { state := s, status := .ok, results := [0, 0, 0, 0, 0, 0, 0] } := by
  rw [ownReadNotice, h, noticeBytes_none, afterReading]

/-! ### READ CAPTURE (R150) -/

/-- READ CAPTURE without arguments goes to the Capture Unit. -/
theorem exec_readCapture {s : State} (hc : carriesCommand s = true) :
    exec (.readCapture []) s = .next (storeResponse 12 (ownReadCapture s)) :=
  congrArg _ (takeCommand_owner hc rfl)

/-- READ CAPTURE removes and reports the oldest record (R150). -/
theorem ownReadCapture_cons {s : State} {r : CaptureRecord} {rest : List CaptureRecord} (h : s.capt.queue = r :: rest) :
    ownReadCapture s =
      { state := s.setCapt { s.capt with queue := rest }, status := .ok, results := captureBytes r } := by
  rw [ownReadCapture, h]

/-- READ CAPTURE of an empty queue reads EMPTY and changes nothing (R150). -/
theorem ownReadCapture_nil {s : State} (h : s.capt.queue = []) : ownReadCapture s = answer s .empty := by
  rw [ownReadCapture, h]

/-! ### The obligation -/

/-- Settles O18: the flags and ATTN by R174's list of the eleven, READ NOTICE by the first of them that is pending and enabled,
READ CAPTURE by its queue. -/
theorem readNoticeAndReadCapture : Obligations.ReadNoticeAndReadCapture := by
  refine ⟨rfl, fun s => ⟨fun n hn => isPending_of_ne_capture hn s, isPending_capture, fun _ => rfl, attn_iff⟩,
    fun s hc => ⟨fun n hp he hlow => ?urgent, fun hno => ?noNotice, fun r rest hq => ?oldest, fun hq => ?noRecord⟩⟩
  case urgent => rw [exec_readNotice hc, ownReadNotice_some (urgentNotice_eq_some hp he hlow), storeResponse_mk, byte]
  case noNotice => rw [exec_readNotice hc, ownReadNotice_none (urgentNotice_eq_none hno), storeResponse_mk]
  case oldest =>
    rw [exec_readCapture hc, ownReadCapture_cons hq, storeResponse_mk]
    rfl
  case noRecord => rw [exec_readCapture hc, ownReadCapture_nil hq, storeResponse_answer]

end Sys2Proof.Machine


/-! PROOFS. NOP: what it stores by its argument length, and that it changes nothing else (R169, R171). -/

namespace Sys2Proof.Machine

/-- NOP without arguments is answered OK (R171). -/
theorem exec_nop_nil {s : State} (hc : carriesCommand s = true) :
    exec (.nop []) s = .next (withResponse s 0 .ok []) :=
  congrArg _ ((takeCommand_owner hc List.length_nil).trans (storeResponse_answer 0 s .ok))

/-- NOP with arguments is refused for its length (R169). -/
theorem exec_nop_of_ne_nil {s : State} {args : List Byte} (hc : carriesCommand s = true) (hne : args ≠ []) :
    exec (.nop args) s = .next (withResponse s 0 .badArgument []) :=
  congrArg _ (takeCommand_length hc (mt List.length_eq_zero_iff.mp hne))

/-- Settles O6: NOP by whether it has arguments. -/
theorem nopChangesTheResponseAlone : Obligations.NopChangesTheResponseAlone := by
  intro s args hc
  by_cases hargs : args = []
  case pos => rw [hargs, exec_nop_nil hc, if_pos rfl]
  case neg => rw [exec_nop_of_ne_nil hc hargs, if_neg hargs]

end Sys2Proof.Machine


/-! PROOFS. Which blocks the shared operations leave, block by block. -/

namespace Sys2Proof.Machine

/-! ### Offers to the transmit queue (R115) -/

@[simp] theorem offer_clock (f : Frame) (s : State) : (offer f s).clock = s.clock := by rw [offer_frame]; rfl
@[simp] theorem offer_ctl (f : Frame) (s : State) : (offer f s).ctl = s.ctl := by rw [offer_frame]; rfl
@[simp] theorem offer_chans (f : Frame) (s : State) : (offer f s).chans = s.chans := by rw [offer_frame]; rfl
@[simp] theorem offer_part (f : Frame) (s : State) : (offer f s).part = s.part := by rw [offer_frame]; rfl
@[simp] theorem offer_prop (f : Frame) (s : State) : (offer f s).prop = s.prop := by rw [offer_frame]; rfl
@[simp] theorem offer_time (f : Frame) (s : State) : (offer f s).time = s.time := by rw [offer_frame]; rfl
@[simp] theorem offer_memb (f : Frame) (s : State) : (offer f s).memb = s.memb := by rw [offer_frame]; rfl
@[simp] theorem offer_capt (f : Frame) (s : State) : (offer f s).capt = s.capt := by rw [offer_frame]; rfl
@[simp] theorem offer_port (f : Frame) (s : State) : (offer f s).port = s.port := by rw [offer_frame]; rfl
@[simp] theorem offer_notes (f : Frame) (s : State) : (offer f s).notes = s.notes := by rw [offer_frame]; rfl
@[simp] theorem offer_pending (f : Frame) (s : State) : (offer f s).pending = s.pending := by rw [offer_frame]; rfl

/-- The line after an offer: the frame is in the queue when there was room (R115). -/
theorem offer_line (f : Frame) (s : State) :
    (offer f s).line =
      { s.line with queue := if queueHasRoom s then insertFrame f s.line.queue else s.line.queue } := by
  unfold offer; split <;> rfl

/-- An offer leaves the rest of the line as it was. -/
theorem offer_eq (f : Frame) (s : State) :
    offer f s = s.setLine
      { s.line with queue := if queueHasRoom s then insertFrame f s.line.queue else s.line.queue } := by
  unfold offer; split <;> rfl

/-- The offer of a SYNC changes the line and the Time Unit's mark alone (R92). -/
theorem offerSync_eq (s : State) :
    offerSync s = (offer (ownFrame s none (.sync 0)) s).setTime { s.time with ownSync := queueHasRoom s } := by
  simp only [offerSync, offer_time]

/-- The offer of a PRESENCE when none is outstanding changes the line and the Membership Unit's mark alone (R108). -/
theorem offerPresence_eq {s : State} (h : s.memb.ownPresence = false) :
    offerPresence s = (offer (presenceFrame s (!s.memb.announced)) s).setMemb
      { s.memb with ownPresence := queueHasRoom s } := by
  simp only [offerPresence, h, offer_memb, Bool.false_eq_true, if_false]

/-- With a PRESENCE outstanding none is offered (R108). -/
theorem offerPresence_outstanding {s : State} (h : s.memb.ownPresence = true) : offerPresence s = s := by
  simp only [offerPresence, h, if_true]

/-! ### Claims, the abort of an attempt, entry to FAULTED -/

/-- A release report, as a change of the claims. -/
theorem releaseClaim_eq (c : Fin 16) (set : SetId) (s : State) :
    ∃ claims, releaseClaim c set s = s.setPart { s.part with claims := claims } := ⟨_, releaseClaim_frame c set s⟩

/-- An attempt aborted: the line without it, with the drive that ends its character (R116). -/
theorem abortAttempt_eq (s : State) :
    abortAttempt s = s.setLine { s.line with
      attempt := none
      driveUntil := s.line.attempt.elim s.line.driveUntil fun a => some (max (characterEnd s a) (s.clock.osc + 1)) } := by
  unfold abortAttempt
  split
  next a ha => rw [ha]; rfl
  next hnone =>
    obtain ⟨_, _, _, _, _, _, _, line⟩ := s
    obtain ⟨_, attempt⟩ := line
    cases hnone
    rfl

/-- The units at entry to FAULTED (R161). -/
theorem enterFaulted_eq (s : State) :
    enterFaulted s =
      { s with
        ctl := { s.ctl with state := .faulted }
        chans := s.chans.map forceSafe
        part := Participant.initial
        prop := Proposer.initial
        time := { s.time with ownSync := false, selfSource := none }
        memb := { s.memb with interval := none, presence := none, ownPresence := false }
        line := { (abortAttempt s).line with
          queue := [], reservation := none, replies := [], failures := 0, mute := none }
        notes := (raise .fault s).notes } := by
  obtain ⟨line, hline⟩ : ∃ line, abortAttempt s = s.setLine line := ⟨_, (abortAttempt_spec s).1⟩
  simp only [enterFaulted, faultLine, clearQueue, hline]
  rfl

end Sys2Proof.Machine


/-! PROOFS. What a step is made of: the elementary changes of the state that every command and every act is a chain of. Each
invariant of the model is then shown for the elementary changes alone. -/

namespace Sys2Proof.Machine

/-! ### Words for the changes -/

/-- No owner keeps a mark of the frame: it is no SYNC, no PRESENCE and no frame of a proposal (R115). -/
structure Unmarked (f : Frame) : Prop where
  sync : isSync f = false
  presence : isKind .presence f = false
  proposal : isProposalFrame f = false

/-- A frame of the queue that no owner keeps a mark of; a REPLY is never queued (R124). -/
structure Unowned (f : Frame) : Prop extends Unmarked f where
  reply : isKind .reply f = false

/-- The line once the queued frame that a predicate names is withdrawn, an attempt with it being aborted (R116). -/
def lineWithout (which : Frame → Bool) (s : State) : LineController :=
  { (if attemptMatches which s then abortAttempt s else s).line with queue := s.line.queue.eraseP which }

/-- The line once a frame of the queue has been sent (R120). -/
def lineSent (f : Frame) (s : State) : LineController :=
  { s.line with queue := s.line.queue.erase f, attempt := none }

/-- The proposal, its outstanding frame no longer in the transmit queue. -/
def Proposal.recalled (p : Proposal) : Proposal :=
  { p with outstanding := p.outstanding.map fun out => { out with queued := false } }

/-- A position of the table is freed with the claims of its record (R25, R27). -/
def freedAt (i : Fin 4) (r : SetRecord) (s : State) : State :=
  if r.state = .staging then putRecord i none s else releaseItems r.set r.items (putRecord i none s)

/-- No frame of the open proposal is in the transmit queue, by its own account. -/
def nothingQueued (s : State) : Prop := ∀ out, outstandingFrame s = some out → out.queued = false

/-- The units beside the outputs, the records, the proposal and the line change, each within its own invariant. -/
structure Beside (s t : State) : Prop where
  ctl : t.ctl = s.ctl
  chans : t.chans = s.chans
  part : t.part = s.part
  prop : t.prop = s.prop
  line : t.line = s.line
  ownSync : t.time.ownSync = s.time.ownSync
  lock : t.time.lock = s.time.lock
  ownPresence : t.memb.ownPresence = s.memb.ownPresence
  time : TimeSound s → TimeSound t
  members : MembersSound s → MembersSound t
  capture : CaptureSound s → CaptureSound t
  notices : NoticesSound s → NoticesSound t
  station : StationSound s → StationSound t

/-- The line alone changes, its queue staying as it is. -/
structure LineOnly (s t : State) : Prop where
  rest : t = s.setLine t.line
  queue : t.line.queue = s.line.queue
  attempt : t.line.attempt = s.line.attempt ∨ t.line.attempt = none
  replies : ∀ r ∈ t.line.replies, r ∈ s.line.replies
  counts : LineSound s → LineSound t
  station : StationSound s → StationSound t

/-- The Proposer Unit alone changes, no frame of it entering or leaving the transmit queue. -/
structure ProposerOnly (s t : State) : Prop where
  rest : t = s.setProp t.prop
  outstanding : outstandingFrame t = outstandingFrame s ∨ nothingQueued s ∧ outstandingFrame t = none
  activity : ActivitySound s.prop.activity → ActivitySound t.prop.activity
  draft : DraftingSound s → DraftingSound t
  log : LogSound s → LogSound t
  member : StationSound s → s.ctl.state = .member

/-- One elementary change of the state. Where a change has a premise of the form "sound before, sound after", it is the premise of
the one unit that the change is about. -/
inductive Change (s : State) : State → Prop
  | beside {t : State} (h : Beside s t) : Change s t
  | line {t : State} (h : LineOnly s t) : Change s t
  | proposer {t : State} (h : ProposerOnly s t) : Change s t
  | attempt (a : Attempt) (hentry : a.reply = false → a.entry ∈ s.line.queue)
      (hreply : a.reply = true → ∃ r ∈ s.line.replies, r.frame = a.entry) (hm : s.ctl.state = .member)
      (hmute : s.line.mute = none) : Change s (s.setLine { s.line with attempt := some a })
  | reply (r : PendingReply) (hkind : isKind .reply r.frame = true) (hm : s.ctl.state = .member) :
      Change s (s.setLine { s.line with replies := s.line.replies ++ [r] })
  | offered (f : Frame) (hf : Unowned f) (hsrc : f.src = s.ctl.number) (hroom : queueHasRoom s = true)
      (hm : StationSound s → s.ctl.state = .member) :
      Change s (s.setLine { s.line with queue := insertFrame f s.line.queue })
  | withdrawn (which : Frame → Bool) (hwhich : ∀ f, which f = true → Unowned f) (hany : s.line.queue.any which = true) :
      Change s (s.setLine (lineWithout which s))
  | placed (p : Proposal) (f : Frame) (hp : s.prop.activity = .active p)
      (hout : p.outstanding = some { frame := f, queued := false }) (hroom : queueHasRoom s = true) :
      Change s ((s.setLine { s.line with queue := insertFrame f s.line.queue }).setProp
        { s.prop with activity := .active { p with outstanding := some { frame := f, queued := true } } })
  | recalled (p : Proposal) (hp : s.prop.activity = .active p) :
      Change s ((s.setLine (if s.line.queue.any isProposalFrame then lineWithout isProposalFrame s else s.line)).setProp
        { s.prop with activity := .active p.recalled })
  | turned (q : Proposal) (f : Frame) (hnone : ActivitySound s.prop.activity → nothingQueued s)
      (hsrc : f.src = s.ctl.number)
      (hq : ActivitySound s.prop.activity →
        ProposalSound { q with outstanding := some { frame := f, queued := queueHasRoom s } })
      (hlog : LogSound s → q.set.proposer = s.ctl.number ∧ q.set.seq ≠ 0)
      (hm : StationSound s → s.ctl.state = .member) :
      Change s ((offer f s).setProp
        { s.prop with activity := .active { q with outstanding := some { frame := f, queued := queueHasRoom s } } })
  | sent (a : Attempt) (ha : s.line.attempt = some a) (hr : a.reply = false) (hf : Unmarked a.entry) :
      Change s (s.setLine (lineSent a.entry s))
  | syncSent (a : Attempt) (ha : s.line.attempt = some a) (hr : a.reply = false) (hf : isSync a.entry = true) :
      Change s ((s.setLine (lineSent a.entry s)).setTime
        { s.time with ownSync := false, supervision := some 0, syncTimer := some 0 })
  | presenceSent (a : Attempt) (ha : s.line.attempt = some a) (hr : a.reply = false)
      (hf : isKind .presence a.entry = true) (announced : Bool) :
      Change s ((s.setLine (lineSent a.entry s)).setMemb { s.memb with ownPresence := false, announced := announced })
  | proposalSent (a : Attempt) (p : Proposal) (ha : s.line.attempt = some a) (hr : a.reply = false)
      (hp : s.prop.activity = .active p) (hf : isProposalFrame a.entry = true) :
      Change s ((s.setLine (lineSent a.entry s)).setProp
        { s.prop with activity := .active { p with outstanding := some { frame := a.entry, queued := false } } })
  | straySent (a : Attempt) (ha : s.line.attempt = some a) (hr : a.reply = false)
      (hf : isProposalFrame a.entry = true) (hp : ∀ p, s.prop.activity ≠ .active p) :
      Change s (s.setLine (lineSent a.entry s))
  | table (i : Fin 4) (o : Option SetRecord)
      (hholder : ∀ c, recordHolder (putRecord i o s) i c = recordHolder s i c)
      (hstore : StoreSound s → StoreSound (putRecord i o s)) (hm : StationSound s → s.ctl.state = .member) :
      Change s (putRecord i o s)
  | freed (i : Fin 4) (r : SetRecord) (hi : s.part.table[i] = some r) : Change s (freedAt i r s)
  | voted (i : Fin 4) (r : SetRecord) (count : Nat) (epoch : NetTime) (windowEnd : Option Instant)
      (hi : s.part.table[i] = some r) (hst : r.state = .staging) (hready : voteChecks s r count epoch = .ready)
      (hself : windowEnd = none ∨ r.set.proposer ≠ s.ctl.number) :
      Change s (claimItems r.set r.items (putRecord i (some (votedRecord r count epoch windowEnd)) s))
  | applied (i : Fin 4) (r : SetRecord) (e : NetTime) (hi : s.part.table[i] = some r) (hst : r.state = .armed) :
      Change s (putRecord i none (handover r.set e r.items s))
  | swapped (c : Fin 16) (w : PendingSwap) (hw : s.chans[c].pending = some w) :
      Change s (releaseClaim c w.set (s.setChans (s.chans.set c.val
        { s.chans[c] with active := w.program, anchor := w.boundary, pending := none })))
  | outputsLost : Change s (outputsLoseLock s)
  | closed (l : List ClosedEntry) (hl : ClosedSound s → ClosedSound (s.setPart { s.part with closed := l }))
      (hm : StationSound s → s.ctl.state = .member) : Change s (s.setPart { s.part with closed := l })
  | syncOffered (hm : s.ctl.state = .member) (hlock : s.time.lock = .locked) (hown : s.time.ownSync = false) :
      Change s (offerSync s)
  | presenceOffered (hm : StationSound s → s.ctl.state = .member) : Change s (offerPresence s)
  | relocked (x : TimeUnit) (hown : x.ownSync = s.time.ownSync) (hlock : s.time.ownSync = true → s.time.lock ≠ .locked)
      (htime : OwnersSound s → TimeSound s → TimeSound (s.setTime x)) : Change s (s.setTime x)
  | syncWithdrawn (x : TimeUnit) (hown : s.time.ownSync = true) (hx : x.ownSync = false)
      (hany : s.line.queue.any isSync = true) (htime : OwnersSound s → TimeSound s → TimeSound (s.setTime x)) :
      Change s ((s.setTime x).setLine (lineWithout isSync s))
  | strayWithdrawn (x : TimeUnit) (hown : s.time.ownSync = true) (hany : s.line.queue.any isSync = false)
      (hx : x.ownSync = false) : Change s (s.setTime x)
  | joined (x : TimeUnit) (hj : s.ctl.state = .joining) (hown : x.ownSync = s.time.ownSync)
      (htime : OwnersSound s → TimeSound s → TimeSound ((s.setTime x).setCtl { s.ctl with state := .member })) :
      Change s (((s.setTime x).setCtl { s.ctl with state := .member }).setMemb
        { s.memb with interval := some 0, presence := some 0, announced := false })
  | configured (x : Vector ChannelRecord 16) (hx : ∀ c : Fin 16, x[c].pending = s.chans[c].pending) :
      Change s (s.setChans x)
  | reset (ctl : StationController) (hctl : ctl.state = .config) : Change s (hardResetStation ctl s)
  | restarted : Change s (restartStation s)
  | started (hc : s.ctl.state = .config) (hr : s.ctl.resetting = false) : Change s (startStation s)
  | faulted (hst : s.ctl.state = .joining ∨ s.ctl.state = .member) : Change s (enterFaulted s)

/-- A chain of elementary changes. -/
abbrev Changes : State → State → Prop := Relation.ReflTransGen Change

/-- What every elementary change keeps, every chain of them keeps. -/
theorem Changes.keeps {P : State → Prop} (hP : ∀ s t, Change s t → P s → P t) {s t : State} (h : Changes s t) (hs : P s) :
    P t := by
  induction h with
  | refl => exact hs
  | tail _ hlast ih => exact hP _ _ hlast ih

/-- The line without a withdrawn frame: its queue is one shorter, and the attempt with it has ended (R116). -/
theorem lineWithout_eq (which : Frame → Bool) (s : State) :
    ∃ attempt drive,
      lineWithout which s =
        { s.line with queue := s.line.queue.eraseP which, attempt := attempt, driveUntil := drive } ∧
      (attempt = none ∨ attempt = s.line.attempt ∧ attemptMatches which s = false) := by
  unfold lineWithout
  split
  next hmatch =>
    unfold abortAttempt
    split
    next => exact ⟨_, _, rfl, .inl rfl⟩
    next hnone => exact ⟨s.line.attempt, s.line.driveUntil, rfl, .inl hnone⟩
  next hmatch => exact ⟨s.line.attempt, s.line.driveUntil, rfl, .inr ⟨rfl, Bool.eq_false_iff.mpr hmatch⟩⟩

/-! ### Claims (R27, R33) -/

/-- What a channel's claim turns on: who holds the channel, its swap, and the claim. -/
theorem claimSound_congr {s t : State} {c : Fin 16} (hrec : ∀ i, recordHolder t i c = recordHolder s i c)
    (hswap : swapHolder t c = swapHolder s c) (hclaim : t.part.claims[c] = s.part.claims[c]) (h : ClaimSound s c) :
    ClaimSound t c := by
  simpa only [ClaimSound, hrec, hswap, hclaim] using h

/-- A channel that nothing holds, with no claim. -/
theorem claimSound_free {t : State} {c : Fin 16} (hrec : ∀ i, recordHolder t i c = none) (hswap : swapHolder t c = none)
    (hclaim : t.part.claims[c] = none) : ClaimSound t c :=
  ⟨fun i hi => absurd (hrec i) hi, fun hs => absurd hswap hs, fun hc => absurd hclaim hc⟩

/-- A holder turns on its position alone. -/
theorem recordHolder_congr {s t : State} {i : Fin 4} (h : t.part.table[i] = s.part.table[i]) (c : Fin 16) :
    recordHolder t i c = recordHolder s i c := by simp only [recordHolder, h]

/-- An empty position holds no channel. -/
theorem recordHolder_none {s : State} {i : Fin 4} (h : s.part.table[i] = none) (c : Fin 16) :
    recordHolder s i c = none := by simp only [recordHolder, h]

/-- A record past STAGING holds the channels of its items. -/
theorem recordHolder_voted {s : State} {i : Fin 4} {r : SetRecord} (h : s.part.table[i] = some r)
    (hst : r.state ≠ .staging) {c : Fin 16} (hc : r.items.any (onChannel c) = true) : recordHolder s i c = some r.set := by
  simp only [recordHolder, h, hst, hc, ne_eq, not_false_eq_true, and_self, if_true]

/-- A record holds no other channel, and in STAGING none. -/
theorem recordHolder_eq_none {s : State} {i : Fin 4} {r : SetRecord} (h : s.part.table[i] = some r) {c : Fin 16}
    (hc : ¬ (r.state ≠ .staging ∧ r.items.any (onChannel c) = true)) : recordHolder s i c = none := by
  simp only [recordHolder, h, if_neg hc]

/-- A state with the same channels, table and claims has the same claims sound. -/
theorem claimsSound_congr {s t : State} (hchans : ∀ c : Fin 16, t.chans[c].pending = s.chans[c].pending)
    (htable : t.part.table = s.part.table) (hclaims : t.part.claims = s.part.claims) (h : ClaimsSound s) :
    ClaimsSound t := fun c =>
  claimSound_congr (fun i => recordHolder_congr (by rw [htable]) c) (by simp only [swapHolder, hchans])
    (by rw [hclaims]) (h c)

/-- With no swap, no record and no claim the claims are sound. -/
theorem claimsSound_initial {t : State} (hchans : ∀ c : Fin 16, t.chans[c].pending = none)
    (hpart : t.part = Participant.initial) : ClaimsSound t := fun c =>
  claimSound_free (fun i => recordHolder_none (by simp [hpart, Participant.initial]) c) (by rw [swapHolder, hchans c]; rfl)
    (by simp [hpart, Participant.initial])

/-- A position emptied leaves its channel to nobody when its record held it, the claim going too. -/
theorem claimSound_emptied {s t : State} {i : Fin 4} {c : Fin 16} (hi : t.part.table[i] = none)
    (hother : ∀ j, j ≠ i → t.part.table[j] = s.part.table[j]) (hheld : recordHolder s i c ≠ none) (h : ClaimSound s c)
    (hswap : swapHolder t c = none) (hclaim : t.part.claims[c] = none) : ClaimSound t c := by
  obtain ⟨-, -, hno⟩ := h.1 i hheld
  refine claimSound_free (fun j => ?_) hswap hclaim
  by_cases hj : j = i
  · subst hj; exact recordHolder_none hi c
  · rw [recordHolder_congr (hother j hj)]; exact hno j hj

/-- A position whose record does not hold a channel may be emptied without a change at that channel. -/
theorem recordHolder_emptied {s t : State} {i : Fin 4} {c : Fin 16} (hi : t.part.table[i] = none)
    (hother : ∀ j, j ≠ i → t.part.table[j] = s.part.table[j]) (hfree : recordHolder s i c = none) (j : Fin 4) :
    recordHolder t j c = recordHolder s j c := by
  by_cases hj : j = i
  · subst hj; rw [recordHolder_none hi, hfree]
  · exact recordHolder_congr (hother j hj) c

theorem freedAt_table_same (i : Fin 4) (r : SetRecord) (s : State) : (freedAt i r s).part.table[i] = none := by
  unfold freedAt
  split <;> exact putRecord_same i none s

theorem freedAt_table_other {i j : Fin 4} (r : SetRecord) (s : State) (h : j ≠ i) :
    (freedAt i r s).part.table[j] = s.part.table[j] := by
  unfold freedAt
  split <;> exact putRecord_other none s h

theorem freedAt_claim (i : Fin 4) (r : SetRecord) (s : State) (c : Fin 16) :
    (freedAt i r s).part.claims[c] =
      if r.state ≠ .staging ∧ r.items.any (onChannel c) = true ∧ s.part.claims[c] = some r.set then none
      else s.part.claims[c] := by
  unfold freedAt
  split
  next hst => simp [hst, putRecord]
  next hst =>
    rw [releaseItems_claim]
    simp [hst, putRecord]

/-- A freed record releases the channels that it held (R27). -/
theorem freedAt_keeps_claims {s : State} {i : Fin 4} {r : SetRecord} (hi : s.part.table[i] = some r)
    (h : ClaimsSound s) : ClaimsSound (freedAt i r s) := by
  intro c
  have hswap : swapHolder (freedAt i r s) c = swapHolder s c := by unfold freedAt; split <;> rfl
  by_cases hc : r.state ≠ .staging ∧ r.items.any (onChannel c) = true
  · have hheld := recordHolder_voted hi hc.1 hc.2
    obtain ⟨hclaim, hnoswap, -⟩ := (h c).1 i (by simp [hheld])
    refine claimSound_emptied (freedAt_table_same i r s) (fun j => freedAt_table_other r s) (by simp [hheld]) (h c)
      (hswap.trans hnoswap) ?_
    rw [freedAt_claim, if_pos ⟨hc.1, hc.2, hclaim.trans hheld⟩]
  · have hfree := recordHolder_eq_none hi hc
    refine claimSound_congr (recordHolder_emptied (freedAt_table_same i r s) (fun j => freedAt_table_other r s) hfree)
      hswap ?_ (h c)
    rw [freedAt_claim, if_neg fun h => hc ⟨h.1, h.2.1⟩]

/-- READY says that every check has passed (R32). -/
theorem all_of_firstRefusal_ready {checks : List (Bool × RefuseReason)} (h : firstRefusal checks = .ready) :
    ∀ x ∈ checks, x.1 = true := by
  intro x hx
  by_contra hfail
  cases hfind : checks.find? fun y => !y.1 with
  | none => exact hfail (by simpa using List.find?_eq_none.mp hfind x hx)
  | some y => simp [firstRefusal_refused hfind] at h

/-- What a READY vote has found: a record without flags and with all its items, and its channels unclaimed (R32). -/
theorem ready_checks {s : State} {r : SetRecord} {count : Nat} {epoch : NetTime}
    (h : voteChecks s r count epoch = .ready) :
    r.short = false ∧ r.invalid = false ∧ r.items.length = count ∧
      ∀ c : Fin 16, r.items.any (onChannel c) = true → s.part.claims[c] = none := by
  have hall := all_of_firstRefusal_ready ((voteChecks_eq s r count epoch).symm.trans h)
  simp only [voteTests, List.forall_mem_cons, Bool.not_eq_true', decide_eq_true_eq] at hall
  obtain ⟨hshort, hinvalid, hcount, -, -, -, hclaims, -⟩ := hall
  refine ⟨hshort, hinvalid, hcount, fun c hc => ?_⟩
  have := List.all_eq_true.mp hclaims c (List.mem_finRange c)
  simpa [hc] using this

end Sys2Proof.Machine


/-! PROOFS. Every elementary change keeps each claim with its holder (R27, R33). -/

namespace Sys2Proof.Machine

/-- A channel with a claim is held, so an unclaimed one is not. -/
theorem holders_none_of_unclaimed {s : State} {c : Fin 16} (h : ClaimSound s c) (hclaim : s.part.claims[c] = none) :
    (∀ i, recordHolder s i c = none) ∧ swapHolder s c = none := by
  obtain ⟨hrec, hswap, -⟩ := h
  refine ⟨fun i => ?_, ?_⟩
  · by_contra hi
    exact hi ((hrec i hi).1.symm.trans hclaim)
  · by_contra hs
    exact hs ((hswap hs).symm.trans hclaim)

/-- A READY vote claims the channels of its record, which nobody held (R33). -/
theorem voted_keeps_claims {s : State} {i : Fin 4} {r : SetRecord} {count : Nat} {epoch : NetTime}
    {windowEnd : Option Instant} (hi : s.part.table[i] = some r) (hst : r.state = .staging)
    (hready : voteChecks s r count epoch = .ready) (h : ClaimsSound s) :
    ClaimsSound (claimItems r.set r.items (putRecord i (some (votedRecord r count epoch windowEnd)) s)) := by
  intro c
  obtain ⟨-, -, -, hunclaimed⟩ := ready_checks hready
  have hclaims := claimItems_claim r.set r.items (putRecord i (some (votedRecord r count epoch windowEnd)) s) c
  have hother (j : Fin 4) (hj : j ≠ i) : recordHolder
      (claimItems r.set r.items (putRecord i (some (votedRecord r count epoch windowEnd)) s)) j c = recordHolder s j c :=
    recordHolder_congr (by rw [claimItems_table, putRecord_other _ _ hj]) c
  have hsame : (claimItems r.set r.items (putRecord i (some (votedRecord r count epoch windowEnd)) s)).part.table[i] =
      some (votedRecord r count epoch windowEnd) := by rw [claimItems_table, putRecord_same]
  have hvoted : (votedRecord r count epoch windowEnd).state ≠ .staging := by simp [votedRecord]
  have hitems : (votedRecord r count epoch windowEnd).items = r.items := rfl
  have hset : (votedRecord r count epoch windowEnd).set = r.set := rfl
  have hunchanged : (putRecord i (some (votedRecord r count epoch windowEnd)) s).part.claims = s.part.claims := rfl
  have hswap : swapHolder (claimItems r.set r.items (putRecord i (some (votedRecord r count epoch windowEnd)) s)) c =
      swapHolder s c := rfl
  rw [hunchanged] at hclaims
  generalize claimItems r.set r.items (putRecord i (some (votedRecord r count epoch windowEnd)) s) = t at *
  generalize votedRecord r count epoch windowEnd = v at *
  by_cases hc : r.items.any (onChannel c) = true
  · obtain ⟨hnone, hnoswap⟩ := holders_none_of_unclaimed (h c) (hunclaimed c hc)
    have hholds : recordHolder t i c = some r.set := hset ▸ recordHolder_voted hsame hvoted (hitems ▸ hc)
    rw [if_pos hc] at hclaims
    rw [← hswap] at hnoswap
    refine ⟨fun j hj => ?_, fun hs => absurd hnoswap hs, fun _ => .inr ⟨i, hholds.trans hclaims.symm⟩⟩
    obtain rfl : j = i := by
      by_contra hne
      exact hj ((hother j hne).trans (hnone j))
    exact ⟨hclaims.trans hholds.symm, hnoswap, fun k hk => (hother k hk).trans (hnone k)⟩
  · rw [if_neg hc] at hclaims
    refine claimSound_congr (fun j => ?_) hswap hclaims (h c)
    by_cases hj : j = i
    · subst hj
      rw [recordHolder_eq_none hi (by simp [hst]), recordHolder_eq_none hsame fun h => hc (hitems ▸ h.2)]
    · exact hother j hj

/-- A swap that an item leaves waiting is of its set (R13). -/
theorem takeItem_pending_set {set : SetId} {e now : NetTime} {it : Item} {ch : ChannelRecord} {w : PendingSwap}
    (hch : ch.pending = none) (h : (takeItem set e now it ch).pending = some w) : w.set = set := by
  have hinstall (p : Program) (anchor : NetTime) : (installProgram ch p anchor).pending ≠ some w := by
    simp [installProgram, hch]
  unfold takeItem at h
  cases hload : it.load with
  | atEpoch => rw [hload] at h; exact absurd h (hinstall _ _)
  | atBoundary =>
    rw [hload] at h
    simp only at h
    split at h
    · exact absurd h (hinstall _ _)
    · split at h
      · exact absurd h (hinstall _ _)
      · rw [← Option.some_inj.mp h]

/-- A handover installs the items of a record or makes them wait, with the claims that go with it (R10, R14, R42). -/
theorem applied_keeps_claims {s : State} {i : Fin 4} {r : SetRecord} {e : NetTime} (hi : s.part.table[i] = some r)
    (hst : r.state = .armed) (h : ClaimsSound s) : ClaimsSound (putRecord i none (handover r.set e r.items s)) := by
  intro c
  have hsame := putRecord_same i none (handover r.set e r.items s)
  have hother (j : Fin 4) (hj : j ≠ i) :
      (putRecord i none (handover r.set e r.items s)).part.table[j] = s.part.table[j] := putRecord_other none _ hj
  have hclaims : (putRecord i none (handover r.set e r.items s)).part.claims[c] =
      if r.items.any (onChannel c) = true ∧ (handover r.set e r.items s).chans[c].pending = none ∧
        s.part.claims[c] = some r.set then none else s.part.claims[c] := by
    simp [putRecord, handover, and_assoc]
  have hchan : (putRecord i none (handover r.set e r.items s)).chans = (handover r.set e r.items s).chans := rfl
  cases hfind : r.items.find? (onChannel c) with
  | none =>
    have hany : ¬ r.items.any (onChannel c) = true := by simpa using List.find?_eq_none.mp hfind
    refine claimSound_congr (recordHolder_emptied hsame hother (recordHolder_eq_none hi fun hc => hany hc.2)) ?_ ?_ (h c)
    · rw [swapHolder, hchan, handover_other hfind]; rfl
    · rw [hclaims, if_neg fun hc => hany hc.1]
  | some it =>
    have hany : r.items.any (onChannel c) = true :=
      List.any_eq_true.mpr ⟨it, List.mem_of_find?_eq_some hfind, by simpa using List.find?_some hfind⟩
    have hheld := recordHolder_voted hi (by simp [hst]) hany
    obtain ⟨hclaim, hnoswap, hno⟩ := (h c).1 i (by simp [hheld])
    have hnone : s.chans[c].pending = none := by simpa [swapHolder] using hnoswap
    rw [hclaim, hheld] at hclaims
    cases hpend : (handover r.set e r.items s).chans[c].pending with
    | none =>
      refine claimSound_emptied hsame hother (by simp [hheld]) (h c) ?_ (by rw [hclaims, if_pos ⟨hany, hpend, rfl⟩])
      rw [swapHolder, hchan, hpend]; rfl
    | some w =>
      have hset : w.set = r.set := takeItem_pending_set hnone (by rw [← handover_at hfind, hpend])
      have hswap : swapHolder (putRecord i none (handover r.set e r.items s)) c = some r.set := by
        rw [swapHolder, hchan, hpend, Option.map_some, hset]
      rw [if_neg fun h => by rw [hpend] at h; cases h.2.1] at hclaims
      refine ⟨fun j hj => absurd ?_ hj, fun _ => hclaims.trans hswap.symm, fun _ => .inl (hswap.trans hclaims.symm)⟩
      by_cases hji : j = i
      · subst hji; exact recordHolder_none hsame c
      · rw [recordHolder_congr (hother j hji)]; exact hno j hji

/-- A channel that waits for its swap is held by no record. -/
theorem recordHolder_none_of_swap {s : State} {c : Fin 16} (h : ClaimSound s c) (hs : swapHolder s c ≠ none) (i : Fin 4) :
    recordHolder s i c = none := by
  by_contra hi
  exact hs (h.1 i hi).2.1

theorem releaseClaim_claim (c : Fin 16) (set : SetId) (s : State) (d : Fin 16) :
    (releaseClaim c set s).part.claims[d] =
      if d = c ∧ s.part.claims[c] = some set then none else s.part.claims[d] := by
  unfold releaseClaim
  by_cases hc : s.part.claims[c] = some set
  · by_cases hd : d = c
    · subst hd; simp [hc]
    · have hne : c.val ≠ d.val := fun h => hd (Fin.ext h.symm)
      rw [if_pos hc]
      simp [hd, Vector.getElem_set_ne _ _ hne]
  · rw [if_neg hc, if_neg fun h => hc h.2]

/-- A completed swap leaves its channel to nobody (R16, R27). -/
theorem swapped_keeps_claims {s : State} {c : Fin 16} {w : PendingSwap} {ch : ChannelRecord}
    (hw : s.chans[c].pending = some w) (hch : ch.pending = none) (h : ClaimsSound s) :
    ClaimsSound (releaseClaim c w.set (s.setChans (s.chans.set c.val ch))) := by
  intro d
  have htable : (releaseClaim c w.set (s.setChans (s.chans.set c.val ch))).part.table = s.part.table := by
    rw [releaseClaim_frame]; rfl
  have hchans : (releaseClaim c w.set (s.setChans (s.chans.set c.val ch))).chans = s.chans.set c.val ch := by
    rw [releaseClaim_frame]; rfl
  have hclaims := releaseClaim_claim c w.set (s.setChans (s.chans.set c.val ch)) d
  have hrec (i : Fin 4) : recordHolder (releaseClaim c w.set (s.setChans (s.chans.set c.val ch))) i d =
      recordHolder s i d := recordHolder_congr (by rw [htable]) d
  by_cases hd : d = c
  · subst hd
    have hswap : swapHolder s d = some w.set := by rw [swapHolder, hw]; rfl
    have hclaim : s.part.claims[d] = some w.set := ((h d).2.1 (by simp [hswap])).trans hswap
    refine claimSound_free (fun i => (hrec i).trans (recordHolder_none_of_swap (h d) (by simp [hswap]) i)) ?_ ?_
    · rw [swapHolder, hchans]; simp [hch]
    · rw [hclaims, if_pos ⟨rfl, hclaim⟩]
  · have hne : c.val ≠ d.val := fun h => hd (Fin.ext h.symm)
    refine claimSound_congr hrec ?_ (by rw [hclaims, if_neg fun h => hd h.1]; rfl) (h d)
    rw [swapHolder, hchans]
    simp [swapHolder, Vector.getElem_set_ne _ _ hne]

theorem loseLock_pending (ch : ChannelRecord) : (loseLock ch).pending = none := by
  unfold loseLock; split <;> rfl

/-- A table written position by position reads as written. -/
theorem getElem_ofFn_fin {α : Type} {n : Nat} (f : Fin n → α) (i : Fin n) : (Vector.ofFn f)[i] = f i := by simp

/-- At a loss of lock every swap goes with its claim (R17, R27). -/
theorem outputsLoseLock_keeps_claims {s : State} (h : ClaimsSound s) : ClaimsSound (outputsLoseLock s) := by
  intro c
  have hswap : swapHolder (outputsLoseLock s) c = none := by simp [swapHolder, outputsLoseLock, loseLock_pending]
  have hrec (i : Fin 4) : recordHolder (outputsLoseLock s) i c = recordHolder s i c := by
    have htable : (outputsLoseLock s).part.table = s.part.table := rfl
    exact recordHolder_congr (by rw [htable]) c
  cases hp : s.chans[c].pending with
  | none =>
    have hclaims : (outputsLoseLock s).part.claims[c] = s.part.claims[c] := by
      simp only [outputsLoseLock, State.setPart_part, getElem_ofFn_fin, hp]
    have hnoswap : swapHolder s c = none := by rw [swapHolder, hp]; rfl
    exact claimSound_congr hrec (hswap.trans hnoswap.symm) hclaims (h c)
  | some w =>
    have hheld : swapHolder s c = some w.set := by rw [swapHolder, hp]; rfl
    have hclaim : s.part.claims[c] = some w.set := ((h c).2.1 (by simp [hheld])).trans hheld
    have hclaims : (outputsLoseLock s).part.claims[c] = none := by
      simp only [outputsLoseLock, State.setPart_part, getElem_ofFn_fin, hp, if_pos hclaim]
    exact claimSound_free (fun i => (hrec i).trans (recordHolder_none_of_swap (h c) (by simp [hheld]) i)) hswap hclaims

theorem forceSafe_pending (ch : ChannelRecord) : (forceSafe ch).pending = none := rfl

/-- Every elementary change keeps the claims sound. -/
theorem Change.keeps_claims {s t : State} (hc : Change s t) (h : ClaimsSound s) : ClaimsSound t := by
  have same {u : State} (hchans : u.chans = s.chans) (hpart : u.part = s.part) : ClaimsSound u :=
    claimsSound_congr (by simp [hchans]) (by rw [hpart]) (by rw [hpart]) h
  cases hc with
  | beside hb => exact same hb.chans hb.part
  | line hl => exact hl.rest ▸ same (by simp) (by simp)
  | proposer hp => exact hp.rest ▸ same (by simp) (by simp)
  | turned => exact same (by simp) (by simp)
  | table i o hholder =>
    refine fun c => claimSound_congr (s := s) (fun j => ?_) rfl rfl (h c)
    by_cases hj : j = i
    · subst hj; exact hholder c
    · exact recordHolder_congr (putRecord_other o s hj) c
  | freed i r hi => exact freedAt_keeps_claims hi h
  | voted i r count epoch windowEnd hi hst hready => exact voted_keeps_claims hi hst hready h
  | applied i r e hi hst => exact applied_keeps_claims hi hst h
  | swapped c w hw => exact swapped_keeps_claims hw rfl h
  | outputsLost => exact outputsLoseLock_keeps_claims h
  | closed => exact claimsSound_congr (fun _ => rfl) rfl rfl h
  | syncOffered => exact same (by simp [offerSync_eq]) (by simp [offerSync_eq])
  | presenceOffered =>
    cases hown : s.memb.ownPresence with
    | true => rw [offerPresence_outstanding hown]; exact h
    | false => exact same (by simp [offerPresence_eq hown]) (by simp [offerPresence_eq hown])
  | configured x hx => exact claimsSound_congr hx rfl rfl h
  | reset => exact claimsSound_initial (by simp [hardResetStation, ChannelRecord.initial]) rfl
  | restarted => exact claimsSound_initial (by simp [restartStation, forceSafe_pending]) rfl
  | faulted =>
    rw [enterFaulted_eq]
    exact claimsSound_initial (by simp [forceSafe_pending]) rfl
  | started => unfold startStation observe; exact same (by simp) (by simp)
  | _ => exact same (by simp) (by simp)

end Sys2Proof.Machine


/-! PROOFS. Every elementary change keeps the store, the recently-closed list, the decision log and the member table. -/

namespace Sys2Proof.Machine

/-! ### The store (R24, R25, R30, R54) -/

/-- What the store's soundness turns on. -/
theorem storeSound_congr {s t : State} (htable : t.part.table = s.part.table) (hnum : t.ctl.number = s.ctl.number)
    (hdraft : DraftingSound s → DraftingSound t) (h : StoreSound s) : StoreSound t := by
  obtain ⟨hpos, hids, hheld, hd⟩ := h
  refine ⟨?_, ?_, ?_, hdraft hd⟩
  · rw [htable, hnum]; exact hpos
  · rw [htable]; exact hids
  · rw [itemsHeld, htable]; exact hheld

/-- What the store's soundness turns on, the Proposer Unit staying as it is. -/
theorem storeSound_congr_prop {s t : State} (htable : t.part.table = s.part.table) (hnum : t.ctl.number = s.ctl.number)
    (hprop : t.prop = s.prop) (h : StoreSound s) : StoreSound t :=
  storeSound_congr htable hnum (fun hd => by rw [DraftingSound, hprop, hnum]; exact hd) h

/-- The number of items held, position by position. -/
theorem itemsHeld_eq (s : State) :
    itemsHeld s = ((s.part.table[0].map (·.items.length)).getD 0 + (s.part.table[1].map (·.items.length)).getD 0 +
      (s.part.table[2].map (·.items.length)).getD 0 + (s.part.table[3].map (·.items.length)).getD 0) := by
  have hfin : List.finRange 4 = [0, 1, 2, 3] := rfl
  simp only [itemsHeld, hfin, List.map_cons, List.map_nil, List.sum_cons, List.sum_nil]
  exact (Nat.add_assoc _ _ _).symm.trans (Nat.add_assoc _ _ _).symm

/-- A position written changes the number of items held by the difference. -/
theorem itemsHeld_putRecord (i : Fin 4) (o : Option SetRecord) (s : State) :
    itemsHeld (putRecord i o s) + (s.part.table[i].map (·.items.length)).getD 0 =
      itemsHeld s + (o.map (·.items.length)).getD 0 := by
  rw [itemsHeld_eq, itemsHeld_eq]
  fin_cases i <;> simp [putRecord] <;> omega

/-- A written position keeps the table sound when what is written is sound, of a set id that no other position holds, and within
the room. -/
theorem storeSound_putRecord {s : State} {i : Fin 4} {o : Option SetRecord} (hpos : PositionSound s.ctl.number o)
    (hids : ∀ j, j ≠ i → IdsDistinct o s.part.table[j])
    (hroom : (o.map (·.items.length)).getD 0 ≤
      (s.part.table[i].map (·.items.length)).getD 0 + (Config.storeSlots - itemsHeld s)) (h : StoreSound s) :
    StoreSound (putRecord i o s) := by
  obtain ⟨hp, hd, hheld, hdraft⟩ := h
  have hsum := itemsHeld_putRecord i o s
  have hsymm {a b : Option SetRecord} (hab : IdsDistinct a b) : IdsDistinct b a := by
    cases a <;> cases b <;> first | trivial | exact Ne.symm hab
  refine ⟨fun j => ?_, fun j k hjk => ?_, by omega, hdraft⟩
  · by_cases hj : j = i
    · subst hj; rw [putRecord_same]; exact hpos
    · rw [putRecord_other _ _ hj]; exact hp j
  · by_cases hj : j = i
    · subst hj
      rw [putRecord_same, putRecord_other _ _ (Ne.symm hjk)]
      exact hids k (Ne.symm hjk)
    · by_cases hk : k = i
      · subst hk
        rw [putRecord_same, putRecord_other _ _ hj]
        exact hsymm (hids j hj)
      · rw [putRecord_other _ _ hj, putRecord_other _ _ hk]
        exact hd j k hjk

/-- An emptied position keeps the table sound. -/
theorem storeSound_emptied {s : State} (i : Fin 4) (h : StoreSound s) : StoreSound (putRecord i none s) :=
  storeSound_putRecord trivial (fun _ _ => trivial) (Nat.zero_le _) h

/-- A record that takes the place of another with the same set id, of no more items, keeps the table sound. -/
theorem storeSound_replaced {s : State} {i : Fin 4} {r r' : SetRecord} (hi : s.part.table[i] = some r)
    (hset : r'.set = r.set) (hself : r'.self = r.self) (hrec : RecordSound r → RecordSound r')
    (hitems : r'.items.length ≤ r.items.length + (Config.storeSlots - itemsHeld s)) (h : StoreSound s) :
    StoreSound (putRecord i (some r') s) := by
  have hpos : PositionSound s.ctl.number (some r) := hi ▸ h.1 i
  obtain ⟨hr, hown⟩ := hpos
  refine storeSound_putRecord (i := i) (o := some r') ⟨hrec hr, by rw [hself, hset]; exact hown⟩ (fun j hj => ?_)
    (by rw [hi]; exact hitems) h
  have hids := h.2.1 i j (Ne.symm hj)
  rw [hi] at hids
  cases hq : s.part.table[j] with
  | none => trivial
  | some q =>
    rw [hq] at hids
    have hne : r.set ≠ q.set := hids
    exact hset.trans_ne hne

/-- A READY vote keeps its record sound: the checks have found it without flags and with all its items (R32, R33). -/
theorem recordSound_voted {r : SetRecord} {count : Nat} {epoch : NetTime} {windowEnd : Option Instant}
    (hst : r.state = .staging) (hshort : r.short = false) (hinvalid : r.invalid = false) (hcount : r.items.length = count)
    (hself : windowEnd = none ∨ r.self = false) (h : RecordSound r) :
    RecordSound (votedRecord r count epoch windowEnd) := by
  obtain ⟨hitems, hinq, -, -, hquiet, -, -⟩ := h
  refine ⟨hitems, hinq, nofun, fun _ => ⟨rfl, congrArg some hcount.symm, hshort, hinvalid⟩,
    fun _ => hquiet (.inl hst), nofun, fun hs => ?_⟩
  have hw : windowEnd = none := hself.resolve_right (by simpa [votedRecord] using hs)
  exact ⟨hw, hw, nofun⟩

/-- No draft is open after this change of the proposer. -/
theorem draftingSound_of_active {s : State} {p : Proposal} (h : s.prop.activity = .active p) : DraftingSound s := by
  simp only [DraftingSound, h]

theorem storeSound_initial {t : State} (hpart : t.part = Participant.initial) (hprop : t.prop = Proposer.initial) :
    StoreSound t := by
  have hnone (i : Fin 4) : t.part.table[i] = none := by simp [hpart, Participant.initial]
  refine ⟨fun i => ?_, fun i j _ => ?_, ?_, ?_⟩
  · rw [hnone]; trivial
  · rw [hnone]; trivial
  · simp [itemsHeld, hpart, Participant.initial]
  · simp [DraftingSound, hprop, Proposer.initial]

/-- Every elementary change keeps the participant table, the staging store and the draft sound. -/
theorem Change.keeps_store {s t : State} (hc : Change s t) (h : StoreSound s) : StoreSound t := by
  have same {u : State} (htable : u.part.table = s.part.table) (hnum : u.ctl.number = s.ctl.number)
      (hprop : u.prop = s.prop) : StoreSound u :=
    storeSound_congr_prop htable hnum hprop h
  have opened {u : State} {p : Proposal} (htable : u.part.table = s.part.table) (hnum : u.ctl.number = s.ctl.number)
      (hp : u.prop.activity = .active p) : StoreSound u :=
    storeSound_congr htable hnum (fun _ => draftingSound_of_active hp) h
  cases hc with
  | beside hb => exact same (by rw [hb.part]) (by rw [hb.ctl]) hb.prop
  | line hl => exact hl.rest ▸ same (by simp) (by simp) (by simp)
  | proposer hp =>
    exact storeSound_congr (by rw [hp.rest]; rfl) (by rw [hp.rest]; rfl) hp.draft h
  | placed p f hp => exact opened (by simp) (by simp) rfl
  | recalled p hp => exact opened (by simp) (by simp) rfl
  | turned q f =>
    exact opened (by simp) (by simp) rfl
  | proposalSent a p => exact opened (by simp) (by simp) rfl
  | table i o _ hstore => exact hstore h
  | freed i r =>
    unfold freedAt
    split
    · exact storeSound_emptied i h
    · exact storeSound_congr_prop (s := putRecord i none s) rfl rfl rfl (storeSound_emptied i h)
  | voted i r count epoch windowEnd hi hst hready hself =>
    obtain ⟨hshort, hinvalid, hcount, -⟩ := ready_checks hready
    have hpos : PositionSound s.ctl.number (some r) := hi ▸ h.1 i
    obtain ⟨-, hown⟩ := hpos
    have hnotself : windowEnd = none ∨ r.self = false :=
      hself.imp_right fun hne => Bool.eq_false_iff.mpr (mt hown.mp hne)
    exact storeSound_congr_prop (s := putRecord i (some (votedRecord r count epoch windowEnd)) s)
      (claimItems_table _ _ _) rfl rfl
      (storeSound_replaced hi rfl rfl (recordSound_voted hst hshort hinvalid hcount hnotself) (Nat.le_add_right _ _) h)
  | applied i r e =>
    rw [handover_frame]
    exact storeSound_emptied i (same (by simp) (by simp) (by simp))
  | swapped c w hw =>
    obtain ⟨claims, hclaims⟩ := releaseClaim_eq c w.set (s.setChans (s.chans.set c.val
      { s.chans[c] with active := w.program, anchor := w.boundary, pending := none }))
    exact hclaims ▸ same (by simp) (by simp) (by simp)
  | syncOffered => rw [offerSync_eq]; exact same (by simp) (by simp) (by simp)
  | presenceOffered =>
    cases hown : s.memb.ownPresence with
    | true => rw [offerPresence_outstanding hown]; exact h
    | false => rw [offerPresence_eq hown]; exact same (by simp) (by simp) (by simp)
  | reset => exact storeSound_initial rfl rfl
  | restarted => exact storeSound_initial rfl rfl
  | faulted => rw [enterFaulted_eq]; exact storeSound_initial rfl rfl
  | started => unfold startStation observe; exact same (by simp) (by simp) (by simp)
  | outputsLost => exact same (by simp [outputsLoseLock]) (by simp [outputsLoseLock]) (by simp [outputsLoseLock])
  | _ => exact same (by simp) (by simp) (by simp)

/-- Every elementary change keeps the recently-closed list sound (R26). -/
theorem Change.keeps_closed {s t : State} (hc : Change s t) (h : ClosedSound s) : ClosedSound t := by
  have same {u : State} (hclosed : u.part.closed = s.part.closed) : ClosedSound u := by
    rw [ClosedSound, hclosed]; exact h
  have initial {u : State} (hpart : u.part = Participant.initial) : ClosedSound u := by
    rw [ClosedSound, hpart]; exact ⟨Nat.zero_le _, List.nodup_nil⟩
  cases hc with
  | beside hb => exact same (by rw [hb.part])
  | line hl => exact hl.rest ▸ same (by simp)
  | proposer hp => exact hp.rest ▸ same (by simp)
  | turned => exact same (by simp)
  | freed =>
    unfold freedAt
    split <;> exact same (by simp [putRecord, releaseItems])
  | swapped c w hw =>
    obtain ⟨claims, hclaims⟩ := releaseClaim_eq c w.set (s.setChans (s.chans.set c.val
      { s.chans[c] with active := w.program, anchor := w.boundary, pending := none }))
    exact hclaims ▸ same (by simp)
  | closed l hl => exact hl h
  | syncOffered => rw [offerSync_eq]; exact same (by simp)
  | presenceOffered =>
    cases hown : s.memb.ownPresence with
    | true => rw [offerPresence_outstanding hown]; exact h
    | false => rw [offerPresence_eq hown]; exact same (by simp)
  | reset => exact initial rfl
  | restarted => exact initial rfl
  | faulted => rw [enterFaulted_eq]; exact initial rfl
  | started => unfold startStation observe; exact same (by simp)
  | outputsLost => exact same (by simp [outputsLoseLock])
  | table => exact same (by simp [putRecord])
  | voted => exact same (by simp [claimItems, putRecord])
  | applied => exact same (by simp [putRecord, handover])
  | _ => exact same (by simp)

/-! ### The decision log, the members, the notices, the captures (R73, R100, R145, R174) -/

/-- The decision log's soundness, the open proposal by name. -/
theorem logSound_iff {s : State} :
    LogSound s ↔ s.prop.log.length ≤ Config.logLimit ∧ (s.prop.log.map (·.set)).Nodup ∧
      (∀ e ∈ s.prop.log, e.set.proposer = s.ctl.number) ∧ s.prop.sequence ≠ 0 ∧
      ∀ p, s.prop.activity = .active p → p.set.proposer = s.ctl.number ∧ p.set.seq ≠ 0 := by
  unfold LogSound
  cases s.prop.activity <;> simp

/-- What the decision log's soundness turns on. -/
theorem logSound_congr {s t : State} (hlog : t.prop.log = s.prop.log) (hseq : t.prop.sequence = s.prop.sequence)
    (hnum : t.ctl.number = s.ctl.number)
    (hact : ∀ q, t.prop.activity = .active q →
      (∃ p, s.prop.activity = .active p ∧ p.set = q.set) ∨ q.set.proposer = s.ctl.number ∧ q.set.seq ≠ 0)
    (h : LogSound s) : LogSound t := by
  rw [logSound_iff] at *
  rw [hlog, hseq, hnum]
  obtain ⟨hlen, hnodup, hown, hne, hopen⟩ := h
  refine ⟨hlen, hnodup, hown, hne, fun q hq => ?_⟩
  rcases hact q hq with ⟨p, hp, hset⟩ | hq
  · exact hset ▸ hopen p hp
  · exact hq

theorem logSound_initial {t : State} (hprop : t.prop = Proposer.initial) : LogSound t := by
  rw [logSound_iff, hprop]
  exact ⟨Nat.zero_le _, List.nodup_nil, nofun, by decide, fun p hp => by cases hp⟩

/-- Every elementary change keeps the decision log sound (R59, R73). -/
theorem Change.keeps_log {s t : State} (hc : Change s t) (h : LogSound s) : LogSound t := by
  have same {u : State} (hprop : u.prop = s.prop) (hnum : u.ctl.number = s.ctl.number) : LogSound u :=
    logSound_congr (by rw [hprop]) (by rw [hprop]) hnum (fun q hq => .inl ⟨q, by rw [← hprop, hq], rfl⟩) h
  have opened {u : State} {p : Proposal} (q : Proposal) (hp : s.prop.activity = .active p) (hset : p.set = q.set)
      (hprop : u.prop = { s.prop with activity := .active q }) (hnum : u.ctl.number = s.ctl.number) : LogSound u :=
    logSound_congr (by rw [hprop]) (by rw [hprop]) hnum
      (fun q' hq' => .inl ⟨p, hp, by rw [hprop] at hq'; cases hq'; exact hset⟩) h
  cases hc with
  | beside hb => exact same hb.prop (by rw [hb.ctl])
  | line hl => exact hl.rest ▸ same (by simp) (by simp)
  | proposer hp => exact hp.log h
  | placed p f hp => exact opened { p with outstanding := some { frame := f, queued := true } } hp rfl rfl (by simp)
  | recalled p hp => exact opened p.recalled hp rfl rfl (by simp)
  | turned q f _ _ _ hlog =>
    have hprop := hlog h
    refine logSound_congr (s := s) rfl rfl (by simp) (fun q' hq' => .inr ?_) h
    obtain rfl := Activity.active.inj hq'
    exact hprop
  | proposalSent a p _ _ hp =>
    exact opened { p with outstanding := some { frame := a.entry, queued := false } } hp rfl rfl (by simp)
  | freed =>
    unfold freedAt
    split <;> exact same (by simp [putRecord, releaseItems]) (by simp [putRecord, releaseItems])
  | swapped c w hw =>
    obtain ⟨claims, hclaims⟩ := releaseClaim_eq c w.set (s.setChans (s.chans.set c.val
      { s.chans[c] with active := w.program, anchor := w.boundary, pending := none }))
    exact hclaims ▸ same (by simp) (by simp)
  | syncOffered => rw [offerSync_eq]; exact same (by simp) (by simp)
  | presenceOffered =>
    cases hown : s.memb.ownPresence with
    | true => rw [offerPresence_outstanding hown]; exact h
    | false => rw [offerPresence_eq hown]; exact same (by simp) (by simp)
  | reset => exact logSound_initial rfl
  | restarted => exact logSound_initial rfl
  | faulted => rw [enterFaulted_eq]; exact logSound_initial rfl
  | started => unfold startStation observe; exact same (by simp) (by simp)
  | outputsLost => exact same (by simp [outputsLoseLock]) (by simp [outputsLoseLock])
  | table => exact same (by simp [putRecord]) (by simp [putRecord])
  | voted => exact same (by simp [claimItems, putRecord]) (by simp [claimItems, putRecord])
  | applied => exact same (by simp [putRecord, handover]) (by simp [putRecord, handover])
  | _ => exact same (by simp) (by simp)

theorem entrySound_initial : EntrySound MemberEntry.initial := ⟨nofun, nofun, rfl, rfl, rfl, rfl, rfl⟩

theorem membersSound_initial {t : State} (h : t.memb.entries = (Membership.initial t.ctl.number).entries) :
    MembersSound t := by
  intro st
  rw [h]
  by_cases hst : st = t.ctl.number
  · subst hst
    simp [Membership.initial]
  · have hne : t.ctl.number.val ≠ st.val := fun h => hst (Fin.ext h.symm)
    rw [if_neg hst]
    simpa [Membership.initial, Vector.getElem_set_ne _ _ hne] using entrySound_initial

/-- Every elementary change keeps the member table sound (R100, R101, R106). -/
theorem Change.keeps_members {s t : State} (hc : Change s t) (h : MembersSound s) : MembersSound t := by
  have same {u : State} (hentries : u.memb.entries = s.memb.entries) (hnum : u.ctl.number = s.ctl.number) :
      MembersSound u := by
    rw [MembersSound, hentries, hnum]; exact h
  cases hc with
  | beside hb => exact hb.members h
  | line hl => exact hl.rest ▸ same (by simp) (by simp)
  | proposer hp => exact hp.rest ▸ same (by simp) (by simp)
  | turned => exact same (by simp) (by simp)
  | freed =>
    unfold freedAt
    split <;> exact same (by simp [putRecord, releaseItems]) (by simp [putRecord, releaseItems])
  | swapped c w hw =>
    obtain ⟨claims, hclaims⟩ := releaseClaim_eq c w.set (s.setChans (s.chans.set c.val
      { s.chans[c] with active := w.program, anchor := w.boundary, pending := none }))
    exact hclaims ▸ same (by simp) (by simp)
  | syncOffered => rw [offerSync_eq]; exact same (by simp) (by simp)
  | presenceOffered =>
    cases hown : s.memb.ownPresence with
    | true => rw [offerPresence_outstanding hown]; exact h
    | false => rw [offerPresence_eq hown]; exact same (by simp) (by simp)
  | reset => exact membersSound_initial rfl
  | restarted => exact membersSound_initial rfl
  | faulted => rw [enterFaulted_eq]; exact same (by simp) (by simp)
  | started => unfold startStation observe; exact same (by simp) (by simp)
  | outputsLost => exact same (by simp [outputsLoseLock]) (by simp [outputsLoseLock])
  | table => exact same (by simp [putRecord]) (by simp [putRecord])
  | voted => exact same (by simp [claimItems, putRecord]) (by simp [claimItems, putRecord])
  | applied => exact same (by simp [putRecord, handover]) (by simp [putRecord, handover])
  | _ => exact same (by simp) (by simp)

end Sys2Proof.Machine


/-! PROOFS. The kinds of the frames, the transmit queue as a list, and that every elementary change keeps it in order (R115). -/

namespace Sys2Proof.Machine

/-! ### Frames by kind (section 8.2, R115) -/

theorem isSync_iff {f : Frame} : isSync f = true ↔ f.body.kind = .sync := beq_iff_eq

theorem isKind_iff {k : FrameKind} {f : Frame} : isKind k f = true ↔ f.body.kind = k := beq_iff_eq

theorem isInquireFor_iff {set : SetId} {f : Frame} : isInquireFor set f = true ↔ f.body = .inquire set := beq_iff_eq

theorem isProposalFrame_iff {f : Frame} :
    isProposalFrame f = true ↔
      f.body.kind = .stage ∨ f.body.kind = .call ∨ f.body.kind = .commit ∨ f.body.kind = .abort := by
  unfold isProposalFrame
  cases f.body.kind <;> decide

/-- The frames of a proposal are those of its phases (R53, R62). -/
theorem isProposalFrame_iff_phase {f : Frame} :
    isProposalFrame f = true ↔ ∃ phase, phaseKind phase = some f.body.kind := by
  rw [isProposalFrame_iff]
  constructor
  · rintro (h | h | h | h)
    · exact ⟨.staging, by rw [h]; rfl⟩
    · exact ⟨.calling, by rw [h]; rfl⟩
    · exact ⟨.committing, by rw [h]; rfl⟩
    · exact ⟨.aborting, by rw [h]; rfl⟩
  · rintro ⟨phase, h⟩
    cases phase <;> simp [phaseKind] at h <;> simp [← h]

/-- A phase is known by its frame. -/
theorem phaseKind_inj {a b : OpenPhase} {k : FrameKind} (ha : phaseKind a = some k) (hb : phaseKind b = some k) :
    a = b := by
  have h : phaseKind a = phaseKind b := ha.trans hb.symm
  cases a <;> cases b <;> simp [phaseKind] at h ⊢

/-- A frame of one kind is of no other. -/
theorem isKind_eq_false {k l : FrameKind} {f : Frame} (h : f.body.kind = k) (hne : k ≠ l) : isKind l f = false :=
  Bool.eq_false_iff.mpr fun hl => hne (h.symm.trans (isKind_iff.mp hl))

theorem isSync_eq_false {f : Frame} (h : f.body.kind ≠ .sync) : isSync f = false :=
  Bool.eq_false_iff.mpr fun hs => h (isSync_iff.mp hs)

theorem isProposalFrame_eq_false {f : Frame} (h : f.body.kind.frameClass ≠ 1 ∧ f.body.kind ≠ .stage ) :
    isProposalFrame f = false :=
  Bool.eq_false_iff.mpr fun hp => by
    rcases isProposalFrame_iff.mp hp with hk | hk | hk | hk <;> simp [hk, FrameKind.frameClass] at h

/-- A frame of a proposal is no SYNC, PRESENCE or REPLY. -/
theorem not_proposalFrame_of_kind {f : Frame} (h : isProposalFrame f = true) :
    isSync f = false ∧ isKind .presence f = false ∧ isKind .reply f = false := by
  refine ⟨isSync_eq_false ?_, Bool.eq_false_iff.mpr fun hk => ?_, Bool.eq_false_iff.mpr fun hk => ?_⟩
  · rcases isProposalFrame_iff.mp h with hk | hk | hk | hk <;> simp [hk]
  · rw [isKind_iff] at hk
    rcases isProposalFrame_iff.mp h with h | h | h | h <;> simp [hk] at h
  · rw [isKind_iff] at hk
    rcases isProposalFrame_iff.mp h with h | h | h | h <;> simp [hk] at h

/-- Frames of the other kinds carry no owner's mark. -/
theorem unmarked_of_kind {f : Frame} (hsync : f.body.kind ≠ .sync) (hpresence : f.body.kind ≠ .presence)
    (hproposal : isProposalFrame f = false) : Unmarked f :=
  ⟨isSync_eq_false hsync, Bool.eq_false_iff.mpr (mt isKind_iff.mp hpresence), hproposal⟩

/-- A DECISION, an INQUIRE and a MISSED are nobody's frames. -/
theorem unowned_of_kind {f : Frame} (h : f.body.kind = .decision ∨ f.body.kind = .inquire ∨ f.body.kind = .missed) :
    Unowned f := by
  refine ⟨unmarked_of_kind ?_ ?_ (Bool.eq_false_iff.mpr fun hp => ?_), ?_⟩
  · rcases h with h | h | h <;> simp [h]
  · rcases h with h | h | h <;> simp [h]
  · rcases isProposalFrame_iff.mp hp with hk | hk | hk | hk <;> simp [hk] at h
  · rcases h with h | h | h <;> exact isKind_eq_false h (by decide)

theorem unowned_inquire {set : SetId} {f : Frame} (h : isInquireFor set f = true) : Unowned f :=
  unowned_of_kind (.inr (.inl (by rw [isInquireFor_iff.mp h]; rfl)))

/-! ### The queue as a list (R115) -/

/-- The queue with a frame inserted is the queue and the frame. -/
theorem insertFrame_perm (f : Frame) (q : List Frame) : (insertFrame f q).Perm (f :: q) := by
  induction q with
  | nil => exact .refl _
  | cons g rest ih =>
    unfold insertFrame
    split
    · exact (ih.cons g).trans (.swap f g rest)
    · exact .refl _

theorem countP_insertFrame (which : Frame → Bool) (f : Frame) (q : List Frame) :
    (insertFrame f q).countP which = q.countP which + if which f then 1 else 0 := by
  rw [(insertFrame_perm f q).countP_eq, List.countP_cons]

/-- Frames of one sort are as many after a withdrawal of another sort. -/
theorem countP_eraseP_of_disjoint {which p : Frame → Bool} (h : ∀ f, which f = true → p f = false) (q : List Frame) :
    (q.eraseP which).countP p = q.countP p := by
  rcases List.exists_or_eq_self_of_eraseP which q with heq | ⟨f, before, after, -, hf, hq, heq⟩
  · rw [heq]
  · rw [heq, hq, List.countP_append, List.countP_append, List.countP_cons_of_neg (by simp [h f hf])]

/-- A withdrawal takes one frame of its sort. -/
theorem countP_eraseP_self {which : Frame → Bool} {q : List Frame} (h : q.any which = true) :
    (q.eraseP which).countP which + 1 = q.countP which := by
  obtain ⟨g, hg, hw⟩ := List.any_eq_true.mp h
  obtain ⟨f, before, after, -, hf, hq, heq⟩ := List.exists_of_eraseP hg hw
  rw [heq, hq, List.countP_append, List.countP_append, List.countP_cons_of_pos hf]
  omega

/-- A sort of frame is owned once exactly when it is counted so. -/
theorem ownedOnce_iff {s : State} {which : Frame → Bool} {owned : Bool} :
    OwnedOnce s which owned ↔ s.line.queue.countP which = owned.toNat := by
  have hany : s.line.queue.any which = true ↔ 0 < s.line.queue.countP which := by
    rw [List.countP_pos_iff, List.any_eq_true]
  unfold OwnedOnce
  cases owned with
  | true => rw [hany, Bool.toNat_true]; omega
  | false => rw [← Bool.not_eq_true, hany, Bool.toNat_false]; omega

/-! ### The order of the queue (R115) -/

/-- What the soundness of the queue turns on. -/
theorem queueSound_congr {s t : State} (hqueue : t.line.queue.Sublist s.line.queue) (hnum : t.ctl.number = s.ctl.number)
    (hout : ∀ out, outstandingFrame t = some out → ∃ o, outstandingFrame s = some o ∧ o.frame = out.frame)
    (h : QueueSound s) : QueueSound t := by
  obtain ⟨hlen, hord, hsrc, hwait⟩ := h
  refine ⟨hqueue.length_le.trans hlen, hord.sublist hqueue, fun f hf => ?_, fun out ho => ?_⟩
  · rw [hnum]; exact hsrc f (hqueue.subset hf)
  · obtain ⟨o, hso, hframe⟩ := hout out ho
    rw [hnum, ← hframe]; exact hwait o hso

/-- A frame of this station taken at its place keeps the queue in order and within its room. -/
theorem queueSound_insert {s t : State} {f : Frame} (hqueue : t.line.queue = insertFrame f s.line.queue)
    (hroom : queueHasRoom s = true) (hsrc : f.src = s.ctl.number) (hnum : t.ctl.number = s.ctl.number)
    (hout : ∀ out, outstandingFrame t = some out →
      (∃ o, outstandingFrame s = some o ∧ o.frame = out.frame) ∨ out.frame.src = s.ctl.number)
    (h : QueueSound s) : QueueSound t := by
  obtain ⟨hlen, hord, hown, hwait⟩ := h
  have hlt : s.line.queue.length < Config.queueLimit := of_decide_eq_true hroom
  refine ⟨?_, ?_, ?_, fun out ho => ?_⟩
  · rw [hqueue, length_insertFrame]; omega
  · rw [hqueue]; exact insertFrame_ordered hord
  · rw [hqueue, hnum]
    intro g hg
    rcases mem_insertFrame.mp hg with rfl | hg
    · exact hsrc
    · exact hown g hg
  · rw [hnum]
    rcases hout out ho with ⟨o, hso, hframe⟩ | hsrc
    · rw [← hframe]; exact hwait o hso
    · exact hsrc

theorem queueSound_empty {t : State} (hqueue : t.line.queue = []) (hout : outstandingFrame t = none) : QueueSound t := by
  refine ⟨by rw [hqueue]; exact Nat.zero_le _, by rw [hqueue]; exact .nil, by rw [hqueue]; exact nofun, ?_⟩
  rw [hout]; exact nofun

theorem outstandingFrame_congr {s t : State} (h : t.prop = s.prop) : outstandingFrame t = outstandingFrame s := by
  rw [outstandingFrame, h, outstandingFrame]

theorem outstandingFrame_active {s : State} {p : Proposal} (h : s.prop.activity = .active p) :
    outstandingFrame s = p.outstanding := by rw [outstandingFrame, h]

theorem outstandingFrame_idle {s : State} (h : s.prop = Proposer.initial) : outstandingFrame s = none := by
  rw [outstandingFrame, h]; rfl

/-- Every elementary change keeps the transmit queue in order and within its room. -/
theorem Change.keeps_queue {s t : State} (hc : Change s t) (hatt : AttemptSound s) (h : QueueSound s) : QueueSound t := by
  have same {u : State} (hqueue : u.line.queue = s.line.queue) (hnum : u.ctl.number = s.ctl.number)
      (hprop : u.prop = s.prop) : QueueSound u :=
    queueSound_congr (hqueue ▸ .refl _) hnum
      (fun out ho => ⟨out, by rw [← outstandingFrame_congr hprop, ho], rfl⟩) h
  have shorter {u : State} (hqueue : u.line.queue.Sublist s.line.queue) (hnum : u.ctl.number = s.ctl.number)
      (hprop : u.prop = s.prop) : QueueSound u :=
    queueSound_congr hqueue hnum (fun out ho => ⟨out, by rw [← outstandingFrame_congr hprop, ho], rfl⟩) h
  have offered {u : State} {f : Frame} (hqueue : u.line.queue = (offer f s).line.queue) (hsrc : f.src = s.ctl.number)
      (hnum : u.ctl.number = s.ctl.number) (hprop : ∀ out, outstandingFrame u = some out →
        (∃ o, outstandingFrame s = some o ∧ o.frame = out.frame) ∨ out.frame.src = s.ctl.number) : QueueSound u := by
    cases hroom : queueHasRoom s with
    | true => exact queueSound_insert (by rw [hqueue, offer_accepted hroom]; rfl) hroom hsrc hnum hprop h
    | false =>
      rw [offer_refused hroom] at hqueue
      obtain ⟨hlen, hord, hown, hwait⟩ := h
      refine ⟨hqueue ▸ hlen, hqueue ▸ hord, hqueue ▸ hnum ▸ hown, fun out ho => ?_⟩
      rcases hprop out ho with ⟨o, hso, hframe⟩ | hsrc
      · rw [hnum, ← hframe]; exact hwait o hso
      · exact hnum ▸ hsrc
  have unchanged {u : State} (hprop : u.prop = s.prop) : ∀ out, outstandingFrame u = some out →
      (∃ o, outstandingFrame s = some o ∧ o.frame = out.frame) ∨ out.frame.src = s.ctl.number :=
    fun out ho => .inl ⟨out, by rw [← outstandingFrame_congr hprop, ho], rfl⟩
  have without (which : Frame → Bool) : (lineWithout which s).queue.Sublist s.line.queue := List.eraseP_sublist
  have afterSent (f : Frame) : (lineSent f s).queue.Sublist s.line.queue := List.erase_sublist
  cases hc with
  | beside hb => exact same (by rw [hb.line]) (by rw [hb.ctl]) hb.prop
  | line hl => exact same hl.queue (by rw [hl.rest]; simp) (by rw [hl.rest]; simp)
  | proposer hp =>
    refine queueSound_congr (by rw [hp.rest]; exact .refl _) (by rw [hp.rest]; simp) (fun out ho => ?_) h
    rcases hp.outstanding with heq | ⟨-, hnone⟩
    · exact ⟨out, heq ▸ ho, rfl⟩
    · rw [hnone] at ho; cases ho
  | offered f _ hsrc hroom =>
    exact offered (f := f) (by simp [offer_accepted hroom]) hsrc (by simp) (unchanged (by simp))
  | withdrawn which => exact shorter (without which) (by simp) (by simp)
  | placed p f hp hout hroom =>
    have hso : outstandingFrame s = some { frame := f, queued := false } := (outstandingFrame_active hp).trans hout
    refine offered (f := f) (by simp [offer_accepted hroom]) (h.2.2.2 _ hso) (by simp) fun out ho => .inl ⟨_, hso, ?_⟩
    cases ho; rfl
  | recalled p hp =>
    refine queueSound_congr ?_ (by simp) (fun out ho => ?_) h
    · rw [State.setProp_line, State.setLine_line]
      split
      · exact without isProposalFrame
      · exact .refl _
    · obtain ⟨o, hpo, rfl⟩ := Option.map_eq_some_iff.mp ho
      exact ⟨o, (outstandingFrame_active hp).trans hpo, rfl⟩
  | turned q f _ hsrc =>
    refine offered (f := f) (by simp) hsrc (by simp) fun out ho => .inr ?_
    cases ho; exact hsrc
  | sent a => exact shorter (afterSent a.entry) (by simp) (by simp)
  | syncSent a => exact shorter (afterSent a.entry) (by simp) (by simp)
  | presenceSent a => exact shorter (afterSent a.entry) (by simp) (by simp)
  | proposalSent a p ha hr =>
    obtain ⟨hlen, hord, hown, -⟩ := h
    refine ⟨(afterSent a.entry).length_le.trans hlen, hord.sublist (afterSent a.entry),
      fun f hf => hown f ((afterSent a.entry).subset hf), fun out ho => ?_⟩
    cases ho
    exact hown a.entry ((hatt a ha).1 hr)
  | straySent a => exact shorter (afterSent a.entry) (by simp) (by simp)
  | freed =>
    unfold freedAt
    split <;> exact same (by simp [putRecord, releaseItems]) (by simp [putRecord, releaseItems])
      (by simp [putRecord, releaseItems])
  | swapped c w hw =>
    obtain ⟨claims, hclaims⟩ := releaseClaim_eq c w.set (s.setChans (s.chans.set c.val
      { s.chans[c] with active := w.program, anchor := w.boundary, pending := none }))
    exact hclaims ▸ same (by simp) (by simp) (by simp)
  | syncOffered =>
    rw [offerSync_eq]
    exact offered (f := ownFrame s none (.sync 0)) (by simp) rfl (by simp) (unchanged (by simp))
  | presenceOffered =>
    cases hown : s.memb.ownPresence with
    | true => rw [offerPresence_outstanding hown]; exact h
    | false =>
      rw [offerPresence_eq hown]
      exact offered (f := presenceFrame s (!s.memb.announced)) (by simp) rfl (by simp) (unchanged (by simp))
  | syncWithdrawn x => exact shorter (without isSync) (by simp) (by simp)
  | table => exact same (by simp [putRecord]) (by simp [putRecord]) (by simp [putRecord])
  | voted => exact same (by simp [claimItems, putRecord]) (by simp [claimItems, putRecord]) (by simp [claimItems, putRecord])
  | applied => exact same (by simp [putRecord, handover]) (by simp [putRecord, handover]) (by simp [putRecord, handover])
  | outputsLost => exact same (by simp [outputsLoseLock]) (by simp [outputsLoseLock]) (by simp [outputsLoseLock])
  | reset => exact queueSound_empty rfl rfl
  | restarted => exact queueSound_empty rfl rfl
  | started => unfold startStation observe; exact same (by simp) (by simp) (by simp)
  | faulted => rw [enterFaulted_eq]; exact queueSound_empty rfl rfl
  | _ => exact same (by simp) (by simp) (by simp)

end Sys2Proof.Machine


/-! PROOFS. Every elementary change keeps the transmit queue and its owners in agreement (R62, R92, R100, R124). -/

namespace Sys2Proof.Machine

/-! ### The queue and its owners (R62, R92, R100, R115, R124) -/

/-- The owners' account of the queue, in counts. -/
structure Accounts (s : State) : Prop where
  sync : s.line.queue.countP isSync = s.time.ownSync.toNat
  presence : s.line.queue.countP (isKind .presence) = s.memb.ownPresence.toNat
  proposal : s.line.queue.countP isProposalFrame = ((outstandingFrame s).any (·.queued)).toNat
  outstanding : ∀ out, outstandingFrame s = some out → out.queued = true → out.frame ∈ s.line.queue
  locked : s.time.ownSync = true → s.time.lock = .locked ∧ s.ctl.state = .member
  noReply : ∀ f ∈ s.line.queue, isKind .reply f = false
  replies : ∀ r ∈ s.line.replies, isKind .reply r.frame = true
  activity : ActivitySound s.prop.activity

theorem ownersSound_iff {s : State} : OwnersSound s ↔ AttemptSound s ∧ Accounts s := by
  unfold OwnersSound
  simp only [ownedOnce_iff]
  constructor
  · rintro ⟨hatt, hno, hreplies, hsync, hlock, hpres, hprop, hout, hact⟩
    exact ⟨hatt, hsync, hpres, hprop, hout, hlock, hno, hreplies, hact⟩
  · rintro ⟨hatt, hsync, hpres, hprop, hout, hlock, hno, hreplies, hact⟩
    exact ⟨hatt, hno, hreplies, hsync, hlock, hpres, hprop, hout, hact⟩

/-- Nothing queued by the proposal's own account. -/
theorem any_queued_eq_false {s : State} (h : nothingQueued s) : (outstandingFrame s).any (·.queued) = false := by
  cases ho : outstandingFrame s with
  | none => rfl
  | some out => simpa using h out ho

/-- An attempt that was sound stays so while its frame stays in the queue. -/
theorem attemptSound_congr {s t : State} (hatt : t.line.attempt = none ∨ t.line.attempt = s.line.attempt)
    (hmem : ∀ a, t.line.attempt = some a → a.reply = false → a.entry ∈ s.line.queue → a.entry ∈ t.line.queue)
    (h : AttemptSound s) : AttemptSound t := by
  intro a ha
  have hs : s.line.attempt = some a := by
    rcases hatt with hnone | hsame
    · rw [hnone] at ha; cases ha
    · rw [← hsame, ha]
  obtain ⟨hentry, hreply⟩ := h a hs
  exact ⟨fun hr => hmem a ha hr (hentry hr), hreply⟩

theorem attemptSound_none {t : State} (h : t.line.attempt = none) : AttemptSound t := by
  intro a ha
  rw [h] at ha
  cases ha

/-- The accounts turn on the queue, the replies, the owners' marks, the lock and the proposal. -/
theorem accounts_congr {s t : State} (hqueue : t.line.queue = s.line.queue)
    (hreplies : ∀ r ∈ t.line.replies, r ∈ s.line.replies) (hown : t.time.ownSync = s.time.ownSync)
    (hlock : s.time.ownSync = true → t.time.lock = s.time.lock ∧ t.ctl.state = s.ctl.state)
    (hpres : t.memb.ownPresence = s.memb.ownPresence) (hprop : t.prop = s.prop) (h : Accounts s) : Accounts t where
  sync := by rw [hqueue, hown]; exact h.sync
  presence := by rw [hqueue, hpres]; exact h.presence
  proposal := by rw [hqueue, outstandingFrame_congr hprop]; exact h.proposal
  outstanding := by rw [hqueue, outstandingFrame_congr hprop]; exact h.outstanding
  locked := by
    rw [hown]
    intro ho
    obtain ⟨hl, hs⟩ := hlock ho
    rw [hl, hs]; exact h.locked ho
  noReply := by rw [hqueue]; exact h.noReply
  replies := fun r hr => h.replies r (hreplies r hr)
  activity := by rw [hprop]; exact h.activity

/-- With an empty queue, nothing marked and no proposal open, the accounts are sound. -/
theorem ownersSound_initial {t : State} (hatt : t.line.attempt = none) (hqueue : t.line.queue = [])
    (hreplies : t.line.replies = []) (hown : t.time.ownSync = false) (hpres : t.memb.ownPresence = false)
    (hprop : t.prop = Proposer.initial) : OwnersSound t := by
  refine ownersSound_iff.mpr ⟨attemptSound_none hatt, ?_, ?_, ?_, ?_, ?_, ?_, ?_, ?_⟩
  · rw [hqueue, hown]; rfl
  · rw [hqueue, hpres]; rfl
  · rw [hqueue, outstandingFrame_idle hprop]; rfl
  · rw [outstandingFrame_idle hprop]; exact nofun
  · rw [hown]; exact nofun
  · rw [hqueue]; exact nofun
  · rw [hreplies]; exact nofun
  · rw [hprop]; exact trivial

/-- A frame that no owner accounts for comes into the queue. -/
theorem accounts_offered {s : State} {f : Frame} (hf : Unowned f) (h : Accounts s) :
    Accounts (s.setLine { s.line with queue := insertFrame f s.line.queue }) where
  sync := (countP_insertFrame _ _ _).trans (by simp [hf.sync, h.sync])
  presence := (countP_insertFrame _ _ _).trans (by simp [hf.presence, h.presence])
  proposal := (countP_insertFrame _ _ _).trans (by rw [hf.proposal]; exact h.proposal)
  outstanding := fun out ho hq => mem_insertFrame.mpr (.inr (h.outstanding out ho hq))
  locked := h.locked
  noReply := fun g hg => (mem_insertFrame.mp hg).elim (fun he => he ▸ hf.reply) (h.noReply g)
  replies := h.replies
  activity := h.activity

/-- A frame that no owner accounts for leaves the queue. -/
theorem accounts_withdrawn {s t : State} {which : Frame → Bool} (hwhich : ∀ f, which f = true → Unowned f)
    (hqueue : t.line.queue = s.line.queue.eraseP which) (hreplies : t.line.replies = s.line.replies)
    (htime : t.time = s.time) (hmemb : t.memb = s.memb) (hctl : t.ctl = s.ctl) (hprop : t.prop = s.prop) (h : Accounts s) :
    Accounts t where
  sync := by rw [hqueue, countP_eraseP_of_disjoint (fun f hf => (hwhich f hf).sync), htime]; exact h.sync
  presence := by rw [hqueue, countP_eraseP_of_disjoint (fun f hf => (hwhich f hf).presence), hmemb]; exact h.presence
  proposal := by
    rw [hqueue, countP_eraseP_of_disjoint (fun f hf => (hwhich f hf).proposal), outstandingFrame_congr hprop]
    exact h.proposal
  outstanding := by
    rw [hqueue, outstandingFrame_congr hprop]
    intro out ho hq
    have hmem := h.outstanding out ho hq
    refine (List.mem_eraseP_of_neg fun hw => ?_).mpr hmem
    have hcount := h.proposal
    have hpos : 0 < s.line.queue.countP isProposalFrame := by rw [hcount, ho]; simp [hq]
    have hnot := (hwhich _ hw).proposal
    have hkind := h.activity
    cases hact : s.prop.activity with
    | idle => rw [outstandingFrame, hact] at ho; cases ho
    | drafting d => rw [outstandingFrame, hact] at ho; cases ho
    | active p =>
      rw [hact] at hkind
      rw [outstandingFrame_active hact] at ho
      have hphase : phaseKind p.phase = some out.frame.body.kind := by rw [← hkind.1, ho]; rfl
      exact absurd (isProposalFrame_iff_phase.mpr ⟨p.phase, hphase⟩) (by simp [hnot])
  locked := by rw [htime, hctl]; exact h.locked
  noReply := fun f hf => h.noReply f (List.mem_of_mem_eraseP (hqueue ▸ hf))
  replies := by rw [hreplies]; exact h.replies
  activity := by rw [hprop]; exact h.activity

/-- The open proposal's outstanding frame is of its phase, and a frame of a proposal. -/
theorem Accounts.outstanding_kind {s : State} (h : Accounts s) {p : Proposal} (hp : s.prop.activity = .active p)
    {out : Outstanding} (ho : p.outstanding = some out) :
    phaseKind p.phase = some out.frame.body.kind ∧ isProposalFrame out.frame = true := by
  have hact := h.activity
  rw [hp] at hact
  have hphase : phaseKind p.phase = some out.frame.body.kind := by rw [← hact.1, ho]; rfl
  exact ⟨hphase, isProposalFrame_iff_phase.mpr ⟨p.phase, hphase⟩⟩

/-- A frame of a proposal that is queued is the open proposal's outstanding frame. -/
theorem Accounts.proposal_of_queued {s : State} (h : Accounts s) {f : Frame} (hf : f ∈ s.line.queue)
    (hk : isProposalFrame f = true) :
    ∃ p, s.prop.activity = .active p ∧ p.outstanding = some { frame := f, queued := true } ∧
      phaseKind p.phase = some f.body.kind := by
  have hpos : 0 < s.line.queue.countP isProposalFrame := List.countP_pos_iff.mpr ⟨f, hf, hk⟩
  have hcount := h.proposal
  cases hact : s.prop.activity with
  | idle => rw [outstandingFrame, hact] at hcount; exact absurd hcount hpos.ne'
  | drafting d => rw [outstandingFrame, hact] at hcount; exact absurd hcount hpos.ne'
  | active p =>
    have hof := outstandingFrame_active hact
    cases ho : p.outstanding with
    | none => rw [hof, ho] at hcount; exact absurd hcount hpos.ne'
    | some out =>
      have hq : out.queued = true := by
        by_contra hne
        rw [hof, ho, Option.any_some, Bool.eq_false_iff.mpr hne] at hcount
        exact absurd hcount hpos.ne'
      obtain ⟨hphase, hkind⟩ := h.outstanding_kind hact ho
      have hmem := h.outstanding out (hof.trans ho) hq
      have hone : s.line.queue.countP isProposalFrame ≤ 1 := by rw [hcount]; exact Bool.toNat_le _
      have hsame : out.frame = f := by
        by_contra hne
        have hperm := List.perm_cons_erase hf
        have hmem' : out.frame ∈ s.line.queue.erase f := (List.mem_erase_of_ne hne).mpr hmem
        have : 0 < (s.line.queue.erase f).countP isProposalFrame := List.countP_pos_iff.mpr ⟨_, hmem', hkind⟩
        rw [hperm.countP_eq, List.countP_cons_of_pos hk] at hone
        omega
      refine ⟨p, rfl, ?_, hsame ▸ hphase⟩
      rw [ho, ← hsame, ← hq]

/-- One frame of a sort leaves the queue when it is sent. -/
theorem countP_erase_self {which : Frame → Bool} {q : List Frame} {f : Frame} (hf : f ∈ q) (hw : which f = true) :
    (q.erase f).countP which = q.countP which - 1 := by
  rw [List.countP_erase, if_pos ⟨hf, hw⟩]

theorem countP_erase_of_not {which : Frame → Bool} {q : List Frame} {f : Frame} (hw : which f = false) :
    (q.erase f).countP which = q.countP which := by
  rw [List.countP_erase, if_neg (by simp [hw]), Nat.sub_zero]

/-- The parts of the accounts that the sent frame, of another sort, does not touch. -/
theorem outstanding_after_erase {s : State} (h : Accounts s) {f : Frame} (hf : isProposalFrame f = false)
    (out : Outstanding) (ho : outstandingFrame s = some out) (hq : out.queued = true) :
    out.frame ∈ s.line.queue.erase f := by
  have hmem := h.outstanding out ho hq
  have hne : out.frame ≠ f := by
    rintro rfl
    cases hact : s.prop.activity with
    | idle => rw [outstandingFrame, hact] at ho; cases ho
    | drafting d => rw [outstandingFrame, hact] at ho; cases ho
    | active p =>
      rw [outstandingFrame_active hact] at ho
      exact absurd (h.outstanding_kind hact ho).2 (by simp [hf])
  exact (List.mem_erase_of_ne hne).mpr hmem

/-- The queue's own frame is what an attempt with it sends. -/
theorem AttemptSound.entry_mem {s : State} (h : AttemptSound s) {a : Attempt} (ha : s.line.attempt = some a)
    (hr : a.reply = false) : a.entry ∈ s.line.queue := (h a ha).1 hr

/-- A recalled proposal is as sound as it was, its frame being the same. -/
theorem proposalSound_recalled {p : Proposal} (h : ProposalSound p) : ProposalSound p.recalled := by
  obtain ⟨hkind, hrest⟩ := h
  refine ⟨?_, hrest⟩
  refine Eq.trans ?_ hkind
  unfold Proposal.recalled
  cases p.outstanding <;> rfl

theorem recalled_any_queued (p : Proposal) : p.recalled.outstanding.any (·.queued) = false := by
  unfold Proposal.recalled
  cases p.outstanding <;> rfl

/-- The line without a withdrawn frame keeps a sound attempt: one with the frame has been aborted. -/
theorem attemptSound_lineWithout {s t : State} {which : Frame → Bool} (hline : t.line = lineWithout which s)
    (h : AttemptSound s) : AttemptSound t := by
  obtain ⟨attempt, drive, heq, hatt⟩ := lineWithout_eq which s
  rw [heq] at hline
  rcases hatt with rfl | ⟨rfl, hmatch⟩
  · exact attemptSound_none (by rw [hline])
  · refine attemptSound_congr (.inr (by rw [hline])) (fun a ha hr hmem => ?_) h
    rw [hline] at ha ⊢
    refine (List.mem_eraseP_of_neg fun hw => ?_).mpr hmem
    have hatt : s.line.attempt = some a := ha
    simp [attemptMatches, hatt, hr, hw] at hmatch

/-- A frame of the proposal taken into a queue that holds none: the account of the open proposal follows its mark. -/
theorem accounts_turned {s t : State} {q : Proposal} {f : Frame} (hnone : nothingQueued s) (hline : t.line = (offer f s).line)
    (htime : t.time = s.time) (hmemb : t.memb = s.memb) (hctl : t.ctl = s.ctl)
    (hprop : t.prop.activity = .active q) (hout : q.outstanding = some { frame := f, queued := queueHasRoom s })
    (hq : ProposalSound q) (h : Accounts s) : Accounts t := by
  have hphase : phaseKind q.phase = some f.body.kind := by rw [← hq.1, hout]; rfl
  have hkind : isProposalFrame f = true := isProposalFrame_iff_phase.mpr ⟨q.phase, hphase⟩
  obtain ⟨hsync, hpres, hreply⟩ := not_proposalFrame_of_kind hkind
  have hof : outstandingFrame t = some { frame := f, queued := queueHasRoom s } :=
    (outstandingFrame_active hprop).trans hout
  have hbefore : s.line.queue.countP isProposalFrame = 0 := by rw [h.proposal, any_queued_eq_false hnone]; rfl
  have hreplies : t.line.replies = s.line.replies := by rw [hline, offer_line]
  cases hroom : queueHasRoom s with
  | true =>
    rw [hroom] at hof
    have hqueue : t.line.queue = insertFrame f s.line.queue := by rw [hline, offer_line, hroom, if_pos rfl]
    constructor
    · rw [hqueue, countP_insertFrame, hsync, htime]; exact h.sync
    · rw [hqueue, countP_insertFrame, hpres, hmemb]; exact h.presence
    · rw [hqueue, countP_insertFrame, hkind, hbefore, hof]; rfl
    · rw [hqueue, hof]
      rintro out ho -
      obtain rfl := Option.some_inj.mp ho
      exact mem_insertFrame.mpr (.inl rfl)
    · rw [htime, hctl]; exact h.locked
    · rw [hqueue]
      intro g hg
      rcases mem_insertFrame.mp hg with rfl | hg
      · exact hreply
      · exact h.noReply g hg
    · rw [hreplies]; exact h.replies
    · rw [hprop]; exact hq
  | false =>
    rw [hroom] at hof
    have hqueue : t.line.queue = s.line.queue := by rw [hline, offer_line, hroom]; rfl
    constructor
    · rw [hqueue, htime]; exact h.sync
    · rw [hqueue, hmemb]; exact h.presence
    · rw [hqueue, hbefore, hof]; rfl
    · rw [hof]
      intro out ho hq
      obtain rfl := Option.some_inj.mp ho
      cases hq
    · rw [htime, hctl]; exact h.locked
    · rw [hqueue]; exact h.noReply
    · rw [hreplies]; exact h.replies
    · rw [hprop]; exact hq

/-- An offer keeps a sound attempt: what was queued stays queued. -/
theorem attemptSound_offer {s t : State} {f : Frame} (hline : t.line = (offer f s).line) (h : AttemptSound s) :
    AttemptSound t := by
  rw [offer_line] at hline
  refine attemptSound_congr (.inr (by rw [hline])) (fun a ha hr hmem => ?_) h
  rw [hline]
  change a.entry ∈ if queueHasRoom s = true then insertFrame f s.line.queue else s.line.queue
  split
  · exact mem_insertFrame.mpr (.inr hmem)
  · exact hmem

/-- The open proposal's frame leaves the queue, withdrawn or sent, and its phase's frame waits by its own account. -/
theorem accounts_recalled {s t : State} {p q : Proposal}
    (hq : t.prop.activity = .active q) (hout : q.outstanding = p.recalled.outstanding) (hsound : ProposalSound q)
    (hsub : t.line.queue.Sublist s.line.queue) (hsync : t.line.queue.countP isSync = s.line.queue.countP isSync)
    (hpres : t.line.queue.countP (isKind .presence) = s.line.queue.countP (isKind .presence))
    (hprop : t.line.queue.countP isProposalFrame = 0) (hreplies : t.line.replies = s.line.replies)
    (htime : t.time = s.time) (hmemb : t.memb = s.memb) (hctl : t.ctl = s.ctl) (h : Accounts s) : Accounts t where
  sync := by rw [hsync, htime]; exact h.sync
  presence := by rw [hpres, hmemb]; exact h.presence
  proposal := by rw [hprop, outstandingFrame_active hq, hout, recalled_any_queued]; rfl
  outstanding := by
    intro out ho hqueued
    have hno := recalled_any_queued p
    rw [outstandingFrame_active hq, hout] at ho
    rw [ho] at hno
    simp [hqueued] at hno
  locked := by rw [htime, hctl]; exact h.locked
  noReply := fun f hf => h.noReply f (hsub.subset hf)
  replies := by rw [hreplies]; exact h.replies
  activity := by rw [hq]; exact hsound

/-- The frames of a proposal withdrawn from a queue with at most one of them. -/
theorem countP_eraseP_proposal {s : State} (h : Accounts s) (hany : s.line.queue.any isProposalFrame = true) :
    (s.line.queue.eraseP isProposalFrame).countP isProposalFrame = 0 := by
  have hone : s.line.queue.countP isProposalFrame ≤ 1 := by rw [h.proposal]; exact Bool.toNat_le _
  have := countP_eraseP_self hany
  omega

/-- The owner's SYNC withdrawn from the queue. -/
theorem accounts_syncWithdrawn {s t : State} (hqueue : t.line.queue = s.line.queue.eraseP isSync)
    (hzero : (s.line.queue.eraseP isSync).countP isSync = 0) (hown : t.time.ownSync = false)
    (hreplies : t.line.replies = s.line.replies) (hmemb : t.memb = s.memb) (hprop : t.prop = s.prop) (h : Accounts s) :
    Accounts t where
  sync := by rw [hqueue, hzero, hown]; rfl
  presence := by
    rw [hqueue, countP_eraseP_of_disjoint (fun f hf => isKind_eq_false (isSync_iff.mp hf) (by decide)), hmemb]
    exact h.presence
  proposal := by
    rw [hqueue, countP_eraseP_of_disjoint (fun f hf => Bool.eq_false_iff.mpr fun hp => ?_), outstandingFrame_congr hprop]
    · exact h.proposal
    · simp [(not_proposalFrame_of_kind hp).1] at hf
  outstanding := by
    rw [hqueue, outstandingFrame_congr hprop]
    intro out ho hq
    refine (List.mem_eraseP_of_neg fun hs => ?_).mpr (h.outstanding out ho hq)
    cases hact : s.prop.activity with
    | idle => rw [outstandingFrame, hact] at ho; cases ho
    | drafting d => rw [outstandingFrame, hact] at ho; cases ho
    | active p =>
      rw [outstandingFrame_active hact] at ho
      simp [(not_proposalFrame_of_kind (h.outstanding_kind hact ho).2).1] at hs
  locked := by rw [hown]; exact nofun
  noReply := fun f hf => h.noReply f (List.mem_of_mem_eraseP (hqueue ▸ hf))
  replies := by rw [hreplies]; exact h.replies
  activity := by rw [hprop]; exact h.activity

/-- A frame that has been sent is no longer on the line, and no attempt is. -/
theorem attemptSound_lineSent {t : State} {f : Frame} {s : State} (h : t.line = lineSent f s) : AttemptSound t :=
  attemptSound_none (by rw [h]; rfl)

/-- Every elementary change keeps the queue and its owners in agreement. -/
theorem Change.keeps_owners {s t : State} (hc : Change s t) (h : OwnersSound s) : OwnersSound t := by
  obtain ⟨hatt, hacc⟩ := ownersSound_iff.mp h
  have same {u : State} (hline : u.line = s.line) (hown : u.time.ownSync = s.time.ownSync)
      (hlock : s.time.ownSync = true → u.time.lock = s.time.lock ∧ u.ctl.state = s.ctl.state)
      (hpres : u.memb.ownPresence = s.memb.ownPresence) (hprop : u.prop = s.prop) : OwnersSound u :=
    ownersSound_iff.mpr ⟨attemptSound_congr (.inr (by rw [hline])) (fun a _ _ hm => by rw [hline]; exact hm) hatt,
      accounts_congr (by rw [hline]) (by rw [hline]; exact fun _ => id) hown hlock hpres hprop hacc⟩
  have other {u : State} (hline : u.line = s.line) (htime : u.time = s.time) (hctl : u.ctl = s.ctl)
      (hmemb : u.memb = s.memb) (hprop : u.prop = s.prop) : OwnersSound u :=
    same hline (by rw [htime]) (fun _ => by rw [htime, hctl]; exact ⟨rfl, rfl⟩) (by rw [hmemb]) hprop
  cases hc with
  | beside hb => exact same hb.line hb.ownSync (fun _ => ⟨hb.lock, by rw [hb.ctl]⟩) hb.ownPresence hb.prop
  | line hl =>
    refine ownersSound_iff.mpr ⟨attemptSound_congr hl.attempt.symm (fun a _ _ hm => by rw [hl.queue]; exact hm) hatt,
      accounts_congr hl.queue hl.replies ?_ (fun _ => ?_) ?_ ?_ hacc⟩
    all_goals rw [hl.rest]
    all_goals simp
  | proposer hp =>
    refine ownersSound_iff.mpr ⟨?_, ?_⟩
    · rw [hp.rest]; exact attemptSound_congr (s := s) (.inr rfl) (fun _ _ _ => id) hatt
    · have hany : (outstandingFrame t).any (·.queued) = (outstandingFrame s).any (·.queued) := by
        rcases hp.outstanding with heq | ⟨hno, heq⟩
        · rw [heq]
        · rw [heq, any_queued_eq_false hno]; rfl
      have hqueue : t.line.queue = s.line.queue := by rw [hp.rest]; rfl
      constructor
      · rw [hqueue, hp.rest]; exact hacc.sync
      · rw [hqueue, hp.rest]; exact hacc.presence
      · rw [hqueue, hany]; exact hacc.proposal
      · intro out ho hq
        rw [hqueue]
        rcases hp.outstanding with heq | ⟨hno, heq⟩
        · exact hacc.outstanding out (heq ▸ ho) hq
        · rw [heq] at ho; cases ho
      · rw [hp.rest]; exact hacc.locked
      · rw [hqueue]; exact hacc.noReply
      · rw [hp.rest]; exact hacc.replies
      · exact hp.activity hacc.activity
  | attempt a hentry hreply =>
    refine ownersSound_iff.mpr ⟨fun b hb => ?_, accounts_congr (s := s) rfl (fun _ => id) rfl (fun _ => ⟨rfl, rfl⟩) rfl rfl hacc⟩
    obtain rfl := Option.some_inj.mp hb
    refine ⟨hentry, fun hr => ?_⟩
    obtain ⟨r, hr, hframe⟩ := hreply hr
    exact hframe ▸ hacc.replies r hr
  | reply r hkind =>
    refine ownersSound_iff.mpr ⟨attemptSound_congr (s := s) (.inr rfl) (fun _ _ _ => id) hatt, ?_⟩
    refine ⟨hacc.sync, hacc.presence, hacc.proposal, hacc.outstanding, hacc.locked, hacc.noReply, fun x hx => ?_, hacc.activity⟩
    rcases List.mem_append.mp hx with hx | hx
    · exact hacc.replies x hx
    · rw [List.mem_singleton.mp hx]; exact hkind
  | offered f hf hsrc hroom =>
    exact ownersSound_iff.mpr ⟨attemptSound_offer (by rw [offer_accepted hroom]) hatt, accounts_offered hf hacc⟩
  | withdrawn which hwhich =>
    obtain ⟨attempt, drive, heq, -⟩ := lineWithout_eq which s
    refine ownersSound_iff.mpr ⟨attemptSound_lineWithout (which := which) (s := s) (by simp) hatt,
      accounts_withdrawn hwhich ?_ ?_ (by simp) (by simp) (by simp) (by simp) hacc⟩ <;> simp [heq]
  | placed p f hp hout hroom =>
    have hsound : ProposalSound p := by have := hacc.activity; rwa [hp] at this
    have hnone : nothingQueued s := by
      intro out ho
      rw [outstandingFrame_active hp, hout] at ho
      obtain rfl := Option.some_inj.mp ho
      rfl
    refine ownersSound_iff.mpr ⟨attemptSound_offer (f := f) (s := s) (by simp [offer_accepted hroom]) hatt,
      accounts_turned (f := f) hnone (by simp [offer_accepted hroom]) (by simp) (by simp) (by simp) rfl (by simp [hroom])
        ?_ hacc⟩
    obtain ⟨hkind, hrest⟩ := hsound
    exact ⟨by rw [← hkind, hout]; rfl, hrest⟩
  | recalled p hp =>
    have hsound : ProposalSound p := by have := hacc.activity; rwa [hp] at this
    obtain ⟨attempt, drive, heq, -⟩ := lineWithout_eq isProposalFrame s
    have hdisjoint : ∀ f, isProposalFrame f = true → isSync f = false ∧ isKind .presence f = false :=
      fun f hf => ⟨(not_proposalFrame_of_kind hf).1, (not_proposalFrame_of_kind hf).2.1⟩
    cases hany : s.line.queue.any isProposalFrame with
    | true =>
      refine ownersSound_iff.mpr ⟨attemptSound_lineWithout (which := isProposalFrame) (s := s) (by simp) hatt,
        accounts_recalled (s := s) (p := p) (q := p.recalled) rfl rfl (proposalSound_recalled hsound) ?_ ?_ ?_ ?_ ?_
          (by simp) (by simp) (by simp) hacc⟩
      all_goals simp only [if_true, State.setProp_line, State.setLine_line, heq]
      · exact List.eraseP_sublist
      · exact countP_eraseP_of_disjoint (fun f hf => (hdisjoint f hf).1) _
      · exact countP_eraseP_of_disjoint (fun f hf => (hdisjoint f hf).2) _
      · exact countP_eraseP_proposal hacc hany
    | false =>
      have hzero : s.line.queue.countP isProposalFrame = 0 := by
        rw [List.countP_eq_zero]
        simpa using hany
      exact ownersSound_iff.mpr ⟨attemptSound_congr (s := s) (.inr rfl) (fun _ _ _ => id) hatt,
        accounts_recalled (s := s) (p := p) (q := p.recalled) rfl rfl (proposalSound_recalled hsound) (.refl _) rfl rfl hzero rfl
          rfl rfl rfl hacc⟩
  | turned q f hnone _ hq =>
    exact ownersSound_iff.mpr ⟨attemptSound_offer (f := f) (s := s) (by simp) hatt,
      accounts_turned (hnone hacc.activity) (by simp) (by simp) (by simp) (by simp) rfl rfl (hq hacc.activity) hacc⟩
  | sent a ha hr hf =>
    refine ownersSound_iff.mpr ⟨attemptSound_lineSent (s := s) (f := a.entry) (by simp), ?_⟩
    exact ⟨(countP_erase_of_not hf.sync).trans hacc.sync, (countP_erase_of_not hf.presence).trans hacc.presence,
      (countP_erase_of_not hf.proposal).trans hacc.proposal, outstanding_after_erase hacc hf.proposal, hacc.locked,
      fun f hf => hacc.noReply f (List.mem_of_mem_erase hf), hacc.replies, hacc.activity⟩
  | syncSent a ha hr hf =>
    have hkind := isSync_iff.mp hf
    have hnot : isProposalFrame a.entry = false := isProposalFrame_eq_false (by simp [hkind, FrameKind.frameClass])
    have hone : s.line.queue.countP isSync ≤ 1 := by rw [hacc.sync]; exact Bool.toNat_le _
    have hzero : (s.line.queue.erase a.entry).countP isSync = 0 := by
      rw [countP_erase_self (hatt.entry_mem ha hr) hf]; omega
    refine ownersSound_iff.mpr ⟨attemptSound_lineSent (s := s) (f := a.entry) (by simp), ?_⟩
    exact ⟨hzero, (countP_erase_of_not (isKind_eq_false hkind (by decide))).trans hacc.presence,
      (countP_erase_of_not hnot).trans hacc.proposal, outstanding_after_erase hacc hnot, nofun,
      fun f hf => hacc.noReply f (List.mem_of_mem_erase hf), hacc.replies, hacc.activity⟩
  | presenceSent a ha hr hf =>
    have hkind := isKind_iff.mp hf
    have hnot : isProposalFrame a.entry = false := isProposalFrame_eq_false (by simp [hkind, FrameKind.frameClass])
    have hone : s.line.queue.countP (isKind .presence) ≤ 1 := by rw [hacc.presence]; exact Bool.toNat_le _
    have hzero : (s.line.queue.erase a.entry).countP (isKind .presence) = 0 := by
      rw [countP_erase_self (hatt.entry_mem ha hr) hf]; omega
    refine ownersSound_iff.mpr ⟨attemptSound_lineSent (s := s) (f := a.entry) (by simp), ?_⟩
    exact ⟨(countP_erase_of_not (isSync_eq_false (by simp [hkind]))).trans hacc.sync, hzero,
      (countP_erase_of_not hnot).trans hacc.proposal, outstanding_after_erase hacc hnot, hacc.locked,
      fun f hf => hacc.noReply f (List.mem_of_mem_erase hf), hacc.replies, hacc.activity⟩
  | proposalSent a p ha hr hp hkind =>
    obtain ⟨hsync, hpres, -⟩ := not_proposalFrame_of_kind hkind
    have hmem := hatt.entry_mem ha hr
    obtain ⟨p', hp', hout, -⟩ := hacc.proposal_of_queued hmem hkind
    obtain rfl := Activity.active.inj (hp.symm.trans hp')
    have hsound : ProposalSound p := by have := hacc.activity; rwa [hp] at this
    have hrecalled : { p with outstanding := some { frame := a.entry, queued := false } } = p.recalled := by
      rw [Proposal.recalled, hout]; rfl
    have hone : s.line.queue.countP isProposalFrame ≤ 1 := by rw [hacc.proposal]; exact Bool.toNat_le _
    have hzero : (s.line.queue.erase a.entry).countP isProposalFrame = 0 := by
      rw [countP_erase_self hmem hkind]; omega
    refine ownersSound_iff.mpr ⟨attemptSound_lineSent (s := s) (f := a.entry) (by simp), ?_⟩
    rw [hrecalled]
    exact accounts_recalled (s := s) (p := p) (q := p.recalled) rfl rfl (proposalSound_recalled hsound)
      List.erase_sublist (countP_erase_of_not hsync) (countP_erase_of_not hpres) hzero rfl rfl rfl rfl hacc
  | straySent a ha hr hf hno =>
    obtain ⟨p, hp, -⟩ := hacc.proposal_of_queued (hatt.entry_mem ha hr) hf
    exact absurd hp (hno p)
  | freed =>
    unfold freedAt
    split <;> exact other (by simp [putRecord, releaseItems]) (by simp [putRecord, releaseItems])
      (by simp [putRecord, releaseItems]) (by simp [putRecord, releaseItems]) (by simp [putRecord, releaseItems])
  | swapped c w hw =>
    obtain ⟨claims, hclaims⟩ := releaseClaim_eq c w.set (s.setChans (s.chans.set c.val
      { s.chans[c] with active := w.program, anchor := w.boundary, pending := none }))
    exact hclaims ▸ other (by simp) (by simp) (by simp) (by simp) (by simp)
  | syncOffered hm hlock hown =>
    rw [offerSync_eq]
    refine ownersSound_iff.mpr ⟨attemptSound_offer (f := ownFrame s none (.sync 0)) (s := s) (by simp) hatt, ?_⟩
    have hzero : s.line.queue.countP isSync = 0 := by rw [hacc.sync, hown]; rfl
    cases hroom : queueHasRoom s with
    | true =>
      rw [offer_accepted hroom]
      refine ⟨(countP_insertFrame _ _ _).trans (by rw [hzero]; rfl), (countP_insertFrame _ _ _).trans hacc.presence,
        (countP_insertFrame _ _ _).trans hacc.proposal, fun out ho hq => mem_insertFrame.mpr (.inr (hacc.outstanding out ho hq)),
        fun _ => ⟨hlock, hm⟩, fun g hg => ?_, hacc.replies, hacc.activity⟩
      rcases mem_insertFrame.mp hg with rfl | hg
      · rfl
      · exact hacc.noReply g hg
    | false =>
      rw [offer_refused hroom]
      exact ⟨hzero, hacc.presence, hacc.proposal, hacc.outstanding, nofun, hacc.noReply, hacc.replies, hacc.activity⟩
  | presenceOffered =>
    cases hown : s.memb.ownPresence with
    | true => rw [offerPresence_outstanding hown]; exact h
    | false =>
      rw [offerPresence_eq hown]
      refine ownersSound_iff.mpr
        ⟨attemptSound_offer (f := presenceFrame s (!s.memb.announced)) (s := s) (by simp) hatt, ?_⟩
      have hzero : s.line.queue.countP (isKind .presence) = 0 := by rw [hacc.presence, hown]; rfl
      cases hroom : queueHasRoom s with
      | true =>
        rw [offer_accepted hroom]
        refine ⟨(countP_insertFrame _ _ _).trans hacc.sync, (countP_insertFrame _ _ _).trans (by rw [hzero]; rfl),
          (countP_insertFrame _ _ _).trans hacc.proposal, fun out ho hq => mem_insertFrame.mpr (.inr (hacc.outstanding out ho hq)),
          hacc.locked, fun g hg => ?_, hacc.replies, hacc.activity⟩
        rcases mem_insertFrame.mp hg with rfl | hg
        · rfl
        · exact hacc.noReply g hg
      | false =>
        rw [offer_refused hroom]
        exact ⟨hacc.sync, hzero, hacc.proposal, hacc.outstanding, hacc.locked, hacc.noReply, hacc.replies, hacc.activity⟩
  | relocked x hown hlock =>
    exact same (by simp) hown (fun ho => absurd (hacc.locked ho).1 (hlock ho)) (by simp) (by simp)
  | syncWithdrawn x hown hx hany =>
    obtain ⟨attempt, drive, heq, -⟩ := lineWithout_eq isSync s
    have hone : s.line.queue.countP isSync ≤ 1 := by rw [hacc.sync]; exact Bool.toNat_le _
    have hzero : (s.line.queue.eraseP isSync).countP isSync = 0 := by have := countP_eraseP_self hany; omega
    exact ownersSound_iff.mpr ⟨attemptSound_lineWithout (which := isSync) (s := s) (by simp) hatt,
      accounts_syncWithdrawn (by simp [heq]) hzero (by simpa using hx) (by simp [heq]) (by simp) (by simp) hacc⟩
  | strayWithdrawn x hown hany =>
    have hcount := hacc.sync
    rw [hown, List.countP_eq_zero.mpr (by simpa using hany)] at hcount
    cases hcount
  | joined x hj hown =>
    exact same (by simp) hown (fun ho => absurd (hacc.locked ho).2 (by simp [hj])) (by simp) (by simp)
  | table => exact other (by simp [putRecord]) (by simp [putRecord]) (by simp [putRecord]) (by simp [putRecord]) (by simp [putRecord])
  | voted =>
    exact other (by simp [claimItems, putRecord]) (by simp [claimItems, putRecord]) (by simp [claimItems, putRecord])
      (by simp [claimItems, putRecord]) (by simp [claimItems, putRecord])
  | applied =>
    exact other (by simp [putRecord, handover]) (by simp [putRecord, handover]) (by simp [putRecord, handover])
      (by simp [putRecord, handover]) (by simp [putRecord, handover])
  | outputsLost =>
    exact other (by simp [outputsLoseLock]) (by simp [outputsLoseLock]) (by simp [outputsLoseLock])
      (by simp [outputsLoseLock]) (by simp [outputsLoseLock])
  | reset => exact ownersSound_initial rfl rfl rfl rfl rfl rfl
  | restarted => exact ownersSound_initial rfl rfl rfl rfl rfl rfl
  | started hconfig =>
    have hnot : s.time.ownSync = false := Bool.eq_false_iff.mpr fun ho => by simpa [hconfig] using (hacc.locked ho).2
    refine ownersSound_iff.mpr ⟨attemptSound_congr (s := s) (.inr rfl) (fun _ _ _ => id) hatt, ?_⟩
    exact accounts_congr (s := s) rfl (fun _ => id) (by rw [hnot]; rfl) (by simp [hnot]) rfl rfl hacc
  | faulted =>
    rw [enterFaulted_eq]
    exact ownersSound_initial (abortAttempt_spec s).2.1 rfl rfl rfl rfl rfl
  | _ => exact other (by simp) (by simp) (by simp) (by simp) (by simp)

end Sys2Proof.Machine


/-! PROOFS. Every elementary change keeps the line's counts, the captures, the notices, the station states and network time. -/

namespace Sys2Proof.Machine

/-! ### The line's counts (R122, R129) -/

/-- What the soundness of the line's counts turns on; an attempt may end. -/
theorem lineSound_congr {s t : State} (hcount : t.line.counters = s.line.counters)
    (hfail : t.line.failures = s.line.failures) (hmute : t.line.mute = s.line.mute)
    (hatt : t.line.attempt = none ∨ t.line.attempt = s.line.attempt ∨ s.line.mute = none) (h : LineSound s) :
    LineSound t := by
  obtain ⟨hc, hle, hiff, hquiet⟩ := h
  refine ⟨hcount ▸ hc, hfail ▸ hle, by rw [hmute, hfail]; exact hiff, fun hm => ?_⟩
  rw [hmute] at hm
  rcases hatt with hnone | hsame | hnot
  · exact hnone
  · rw [hsame]; exact hquiet hm
  · rw [hnot] at hm; cases hm

theorem lineSound_reset {t : State} (hcount : CountersSound t.line.counters) (hfail : t.line.failures = 0)
    (hmute : t.line.mute = none) : LineSound t := by
  refine ⟨hcount, by rw [hfail]; exact Nat.zero_le _, ?_, ?_⟩
  · rw [hmute, hfail]; decide
  · rw [hmute]; exact nofun

theorem countersSound_initial : CountersSound Counters.initial := by
  refine ⟨?_, ?_, ?_, ?_, ?_, ?_, ?_, ?_⟩ <;> exact Nat.zero_le _

/-- Every elementary change keeps the line's counts sound. -/
theorem Change.keeps_counts {s t : State} (hc : Change s t) (h : LineSound s) : LineSound t := by
  have same {u : State} (hline : u.line = s.line) : LineSound u :=
    lineSound_congr (by rw [hline]) (by rw [hline]) (by rw [hline]) (.inr (.inl (by rw [hline]))) h
  have without {u : State} (which : Frame → Bool) (hline : u.line = lineWithout which s) : LineSound u := by
    obtain ⟨attempt, drive, heq, hatt⟩ := lineWithout_eq which s
    rw [heq] at hline
    refine lineSound_congr ?_ ?_ ?_ (hatt.imp (fun h => ?_) fun h => .inl ?_) h
    · rw [hline]
    · rw [hline]
    · rw [hline]
    · rw [hline]; exact h
    · rw [hline]; exact h.1
  have afterSent {u : State} (f : Frame) (hline : u.line = lineSent f s) : LineSound u := by
    refine lineSound_congr ?_ ?_ ?_ (.inl ?_) h <;> rw [hline] <;> rfl
  have afterOffer {u : State} (f : Frame) (hline : u.line = (offer f s).line) : LineSound u := by
    rw [offer_line] at hline
    refine lineSound_congr ?_ ?_ ?_ (.inr (.inl ?_)) h <;> rw [hline]
  cases hc with
  | beside hb => exact same hb.line
  | line hl => exact hl.counts h
  | proposer hp => exact same (by rw [hp.rest]; simp)
  | attempt a _ _ _ hmute => exact lineSound_congr (s := s) rfl rfl rfl (.inr (.inr hmute)) h
  | reply => exact lineSound_congr (s := s) rfl rfl rfl (.inr (.inl rfl)) h
  | offered f _ _ hroom => exact afterOffer f (by rw [offer_accepted hroom])
  | withdrawn which => exact without which (by simp)
  | placed p f _ _ hroom => exact afterOffer f (by simp [offer_accepted hroom])
  | recalled p hp =>
    split
    · exact without isProposalFrame (by simp)
    · exact same (by simp)
  | turned q f => exact afterOffer f (by simp)
  | sent a => exact afterSent a.entry (by simp)
  | syncSent a => exact afterSent a.entry (by simp)
  | presenceSent a => exact afterSent a.entry (by simp)
  | proposalSent a p => exact afterSent a.entry (by simp)
  | straySent a => exact afterSent a.entry (by simp)
  | freed =>
    unfold freedAt
    split <;> exact same (by simp [putRecord, releaseItems])
  | swapped c w hw =>
    obtain ⟨claims, hclaims⟩ := releaseClaim_eq c w.set (s.setChans (s.chans.set c.val
      { s.chans[c] with active := w.program, anchor := w.boundary, pending := none }))
    exact hclaims ▸ same (by simp)
  | syncOffered => rw [offerSync_eq]; exact afterOffer (ownFrame s none (.sync 0)) (by simp)
  | presenceOffered =>
    cases hown : s.memb.ownPresence with
    | true => rw [offerPresence_outstanding hown]; exact h
    | false => rw [offerPresence_eq hown]; exact afterOffer (presenceFrame s (!s.memb.announced)) (by simp)
  | syncWithdrawn x => exact without isSync (by simp)
  | outputsLost => exact same (by simp [outputsLoseLock])
  | table => exact same (by simp [putRecord])
  | voted => exact same (by simp [claimItems, putRecord])
  | applied => exact same (by simp [putRecord, handover])
  | reset => exact lineSound_reset countersSound_initial rfl rfl
  | restarted => exact lineSound_reset countersSound_initial rfl rfl
  | started => exact lineSound_congr (s := s) rfl rfl rfl (.inr (.inl rfl)) h
  | faulted =>
    rw [enterFaulted_eq]
    refine lineSound_reset ?_ rfl rfl
    obtain ⟨-, -, -, hcount, -⟩ := abortAttempt_spec s
    exact hcount ▸ h.1
  | _ => exact same (by simp)

/-! ### Captures and notices (R145, R148, R149, R174) -/

theorem captureSound_congr {s t : State} (hcapt : t.capt = s.capt)
    (hst : t.ctl.state = .config ↔ s.ctl.state = .config) (h : CaptureSound s) : CaptureSound t := by
  unfold CaptureSound at *
  simpa only [hcapt, hst] using h

theorem captureSound_initial {t : State} (hcapt : ∃ sel pins, t.capt = Capture.initial sel pins)
    (hst : t.ctl.state = .config) : CaptureSound t := by
  obtain ⟨sel, pins, hcapt⟩ := hcapt
  simp [CaptureSound, hcapt, Capture.initial, hst]

/-- Every elementary change keeps the captures sound. -/
theorem Change.keeps_captures {s t : State} (hc : Change s t) (h : CaptureSound s) : CaptureSound t := by
  have same {u : State} (hcapt : u.capt = s.capt) (hctl : u.ctl = s.ctl) : CaptureSound u :=
    captureSound_congr hcapt (by rw [hctl]) h
  cases hc with
  | beside hb => exact hb.capture h
  | line hl => exact hl.rest ▸ same (by simp) (by simp)
  | proposer hp => exact hp.rest ▸ same (by simp) (by simp)
  | freed =>
    unfold freedAt
    split <;> exact same (by simp [putRecord, releaseItems]) (by simp [putRecord, releaseItems])
  | swapped c w hw =>
    obtain ⟨claims, hclaims⟩ := releaseClaim_eq c w.set (s.setChans (s.chans.set c.val
      { s.chans[c] with active := w.program, anchor := w.boundary, pending := none }))
    exact hclaims ▸ same (by simp) (by simp)
  | syncOffered => rw [offerSync_eq]; exact same (by simp) (by simp)
  | presenceOffered =>
    cases hown : s.memb.ownPresence with
    | true => rw [offerPresence_outstanding hown]; exact h
    | false => rw [offerPresence_eq hown]; exact same (by simp) (by simp)
  | joined x hj => exact captureSound_congr (by simp) (by simp [hj]) h
  | outputsLost => exact same (by simp [outputsLoseLock]) (by simp [outputsLoseLock])
  | table => exact same (by simp [putRecord]) (by simp [putRecord])
  | voted => exact same (by simp [claimItems, putRecord]) (by simp [claimItems, putRecord])
  | applied => exact same (by simp [putRecord, handover]) (by simp [putRecord, handover])
  | reset ctl hctl => exact captureSound_initial ⟨_, _, rfl⟩ hctl
  | restarted => exact captureSound_initial ⟨_, _, rfl⟩ rfl
  | started =>
    obtain ⟨hlen, hlost, htotal, hle, -, -⟩ := h
    refine ⟨hlen, hlost, htotal, hle, fun i => ?_, nofun⟩
    simp [startStation, observe]
  | faulted hst =>
    rw [enterFaulted_eq]
    exact captureSound_congr (s := s) rfl (by rcases hst with hst | hst <;> simp [hst]) h
  | _ => exact same (by simp) (by simp)

/-- Every elementary change keeps the stored flags without a CAPTURE flag. -/
theorem Change.keeps_notices {s t : State} (hc : Change s t) (h : NoticesSound s) : NoticesSound t := by
  have same {u : State} (hnotes : u.notes = s.notes) : NoticesSound u := by
    rw [NoticesSound, hnotes]; exact h
  cases hc with
  | beside hb => exact hb.notices h
  | line hl => exact hl.rest ▸ same (by simp)
  | proposer hp => exact hp.rest ▸ same (by simp)
  | freed =>
    unfold freedAt
    split <;> exact same (by simp [putRecord, releaseItems])
  | swapped c w hw =>
    obtain ⟨claims, hclaims⟩ := releaseClaim_eq c w.set (s.setChans (s.chans.set c.val
      { s.chans[c] with active := w.program, anchor := w.boundary, pending := none }))
    exact hclaims ▸ same (by simp)
  | syncOffered => rw [offerSync_eq]; exact same (by simp)
  | presenceOffered =>
    cases hown : s.memb.ownPresence with
    | true => rw [offerPresence_outstanding hown]; exact h
    | false => rw [offerPresence_eq hown]; exact same (by simp)
  | outputsLost => exact same (by simp [outputsLoseLock])
  | table => exact same (by simp [putRecord])
  | voted => exact same (by simp [claimItems, putRecord])
  | applied => exact same (by simp [putRecord, handover])
  | reset => exact BitVec.getLsbD_zero
  | restarted => exact BitVec.getLsbD_zero
  | started => unfold startStation observe; exact same (by simp)
  | faulted =>
    rw [enterFaulted_eq]
    change (s.notes.flags ||| Notice.fault.mask).getLsbD 10 = false
    have hbit : Notice.fault.mask.getLsbD 10 = false := getLsbD_mask .capture .fault
    rw [BitVec.getLsbD_or, hbit, Bool.or_false]
    exact h
  | _ => exact same (by simp)

/-! ### The station states (R114, R158, R159, R162) -/

/-- In MEMBER the station state fixes nothing but that the line is observed. -/
theorem stationSound_member {s t : State} (hm : s.ctl.state = .member) (hctl : t.ctl = s.ctl)
    (hobs : t.line.observed = s.line.observed) (h : StationSound s) : StationSound t := by
  obtain ⟨-, hline, hreset⟩ := h
  refine ⟨fun hne => absurd (hctl ▸ hm) hne, by rw [hobs, hctl]; exact hline, by rw [hctl]; exact hreset⟩

/-- What the station's soundness turns on. -/
theorem stationSound_congr {s t : State} (hctl : t.ctl = s.ctl) (hpart : t.part = s.part) (hprop : t.prop = s.prop)
    (hchans : ∀ c : Fin 16, t.chans[c].pending = s.chans[c].pending) (hline : t.line = s.line)
    (hown : t.time.ownSync = s.time.ownSync) (hpres : t.memb.ownPresence = s.memb.ownPresence)
    (hint : t.memb.interval = s.memb.interval) (hper : t.memb.presence = s.memb.presence) (h : StationSound s) :
    StationSound t := by
  unfold StationSound at *
  simpa only [hctl, hpart, hprop, hchans, hline, hown, hpres, hint, hper] using h

/-- The states outside MEMBER after a reset or a fault. -/
theorem stationSound_quiet {t : State} (hpart : t.part = Participant.initial) (hprop : t.prop = Proposer.initial)
    (hchans : ∀ c : Fin 16, t.chans[c].pending = none) (hqueue : t.line.queue = []) (hatt : t.line.attempt = none)
    (hreplies : t.line.replies = []) (hres : t.line.reservation = none) (hmute : t.line.mute = none)
    (hown : t.time.ownSync = false) (hpres : t.memb.ownPresence = false) (hint : t.memb.interval = none)
    (hper : t.memb.presence = none) (hobs : t.line.observed = none ↔ t.ctl.state = .config)
    (hreset : t.ctl.resetting = true → t.ctl.state = .config) : StationSound t :=
  ⟨fun _ => ⟨hpart, hprop, hchans, hqueue, hatt, hreplies, hres, hmute, hown, hpres, hint, hper⟩, hobs, hreset⟩

/-- Outside MEMBER there is no record. -/
theorem StationSound.member_of_record {s : State} (h : StationSound s) {i : Fin 4} {r : SetRecord}
    (hi : s.part.table[i] = some r) : s.ctl.state = .member := by
  by_contra hne
  obtain ⟨hpart, -⟩ := h.1 hne
  simp [hpart, Participant.initial] at hi

theorem StationSound.member_of_swap {s : State} (h : StationSound s) {c : Fin 16} {w : PendingSwap}
    (hw : s.chans[c].pending = some w) : s.ctl.state = .member := by
  by_contra hne
  obtain ⟨-, -, hchans, -⟩ := h.1 hne
  rw [hchans c] at hw
  cases hw

theorem StationSound.member_of_active {s : State} (h : StationSound s) {p : Proposal}
    (hp : s.prop.activity = .active p) : s.ctl.state = .member := by
  by_contra hne
  obtain ⟨-, hprop, -⟩ := h.1 hne
  rw [hprop] at hp
  cases hp

theorem StationSound.member_of_drafting {s : State} (h : StationSound s) {d : Draft}
    (hd : s.prop.activity = .drafting d) : s.ctl.state = .member := by
  by_contra hne
  obtain ⟨-, hprop, -⟩ := h.1 hne
  rw [hprop] at hd
  cases hd

theorem StationSound.member_of_attempt {s : State} (h : StationSound s) {a : Attempt}
    (ha : s.line.attempt = some a) : s.ctl.state = .member := by
  by_contra hne
  obtain ⟨-, -, -, -, hatt, -⟩ := h.1 hne
  rw [hatt] at ha
  cases ha

theorem StationSound.member_of_queued {s : State} (h : StationSound s) {which : Frame → Bool}
    (hq : s.line.queue.any which = true) : s.ctl.state = .member := by
  by_contra hne
  obtain ⟨-, -, -, hqueue, -⟩ := h.1 hne
  rw [hqueue] at hq
  cases hq

theorem StationSound.member_of_ownSync {s : State} (h : StationSound s) (ho : s.time.ownSync = true) :
    s.ctl.state = .member := by
  by_contra hne
  obtain ⟨-, -, -, -, -, -, -, -, hown, -⟩ := h.1 hne
  rw [hown] at ho
  cases ho

/-- Every elementary change keeps what the station state fixes. -/
theorem Change.keeps_station {s t : State} (hc : Change s t) (h : StationSound s) : StationSound t := by
  have member {u : State} (hm : s.ctl.state = .member) (hctl : u.ctl = s.ctl)
      (hobs : u.line.observed = s.line.observed) : StationSound u := stationSound_member hm hctl hobs h
  have obs (which : Frame → Bool) : (lineWithout which s).observed = s.line.observed := by
    obtain ⟨attempt, drive, heq, -⟩ := lineWithout_eq which s
    rw [heq]
  cases hc with
  | beside hb => exact hb.station h
  | line hl => exact hl.station h
  | proposer hp => exact member (hp.member h) (by rw [hp.rest]; simp) (by rw [hp.rest]; simp)
  | attempt a _ _ hm => exact member hm (by simp) (by simp)
  | reply r _ hm => exact member hm (by simp) (by simp)
  | offered f _ _ _ hm => exact member (hm h) (by simp) (by simp)
  | withdrawn which _ hany => exact member (h.member_of_queued hany) (by simp) (by simp [obs])
  | placed p f hp => exact member (h.member_of_active hp) (by simp) (by simp)
  | recalled p hp =>
    split
    · exact member (h.member_of_active hp) (by simp) (by simp [obs])
    · exact member (h.member_of_active hp) (by simp) (by simp)
  | turned q f _ _ _ _ hm => exact member (hm h) (by simp) (by simp [offer_line])
  | sent a ha => exact member (h.member_of_attempt ha) (by simp) (by simp [lineSent])
  | syncSent a ha => exact member (h.member_of_attempt ha) (by simp) (by simp [lineSent])
  | presenceSent a ha => exact member (h.member_of_attempt ha) (by simp) (by simp [lineSent])
  | proposalSent a p ha => exact member (h.member_of_attempt ha) (by simp) (by simp [lineSent])
  | straySent a ha => exact member (h.member_of_attempt ha) (by simp) (by simp [lineSent])
  | table i o _ _ hm => exact member (hm h) (by simp [putRecord]) (by simp [putRecord])
  | freed i r hi =>
    unfold freedAt
    split <;> exact member (h.member_of_record hi) (by simp [putRecord, releaseItems]) (by simp [putRecord, releaseItems])
  | voted i r count epoch windowEnd hi =>
    exact member (h.member_of_record hi) (by simp [claimItems, putRecord]) (by simp [claimItems, putRecord])
  | applied i r e hi => exact member (h.member_of_record hi) (by simp [putRecord, handover]) (by simp [putRecord, handover])
  | swapped c w hw =>
    obtain ⟨claims, hclaims⟩ := releaseClaim_eq c w.set (s.setChans (s.chans.set c.val
      { s.chans[c] with active := w.program, anchor := w.boundary, pending := none }))
    exact hclaims ▸ member (h.member_of_swap hw) (by simp) (by simp)
  | outputsLost =>
    by_cases hm : s.ctl.state = .member
    · exact member hm (by simp [outputsLoseLock]) (by simp [outputsLoseLock])
    · obtain ⟨hpart, hprop, hchans, hqueue, hatt, hreplies, hres, hmute, hown, hpres, hint, hper⟩ := h.1 hm
      refine stationSound_quiet ?_ hprop (by simp [outputsLoseLock, loseLock_pending]) hqueue hatt hreplies hres hmute
        hown hpres hint hper h.2.1 h.2.2
      have hclaims : (outputsLoseLock s).part.claims = s.part.claims := by
        refine Vector.ext fun c hc => ?_
        simp only [outputsLoseLock, State.setPart_part, Vector.getElem_ofFn]
        rw [hchans ⟨c, hc⟩]
        rfl
      have hframe : (outputsLoseLock s).part = { s.part with claims := (outputsLoseLock s).part.claims } := rfl
      rw [hframe, hclaims]
      exact hpart
  | closed l _ hm => exact member (hm h) (by simp) (by simp)
  | syncOffered hm => rw [offerSync_eq]; exact member hm (by simp) (by simp [offer_line])
  | presenceOffered hm =>
    cases hown : s.memb.ownPresence with
    | true => rw [offerPresence_outstanding hown]; exact h
    | false => rw [offerPresence_eq hown]; exact member (hm h) (by simp) (by simp [offer_line])
  | relocked x hown => exact stationSound_congr (s := s) rfl rfl rfl (fun _ => rfl) rfl hown rfl rfl rfl h
  | syncWithdrawn x hown => exact member (h.member_of_ownSync hown) (by simp) (by simp [obs])
  | strayWithdrawn x hown => exact member (h.member_of_ownSync hown) (by simp) (by simp)
  | joined x hj =>
    obtain ⟨-, hobs, hreset⟩ := h
    refine ⟨fun hne => absurd rfl hne, ?_, fun hr => ?_⟩
    · simpa [hj] using hobs
    · exact absurd (hj.symm.trans (hreset hr)) (by decide)
  | configured x hx => exact stationSound_congr (s := s) rfl rfl rfl hx rfl rfl rfl rfl rfl h
  | reset ctl hctl =>
    exact stationSound_quiet rfl rfl (by simp [hardResetStation, ChannelRecord.initial]) rfl rfl rfl rfl rfl rfl rfl rfl
      rfl (iff_of_true rfl hctl) fun _ => hctl
  | restarted =>
    exact stationSound_quiet rfl rfl (by simp [restartStation, forceSafe_pending]) rfl rfl rfl rfl rfl rfl rfl rfl
      rfl (iff_of_true rfl rfl) fun _ => rfl
  | started hconfig hr =>
    obtain ⟨hpart, hprop, hchans, hqueue, hatt, hreplies, hres, hmute, hown, hpres, hint, hper⟩ :=
      h.1 (by simp [hconfig])
    refine stationSound_quiet hpart hprop hchans hqueue hatt hreplies hres hmute rfl hpres hint hper ?_ ?_
    · simp [startStation, observe]
    · simp [startStation, observe, hr]
  | faulted hst =>
    rw [enterFaulted_eq]
    obtain ⟨-, hobs, hreset⟩ := h
    refine stationSound_quiet rfl rfl (by simp [forceSafe_pending]) rfl (abortAttempt_spec s).2.1 rfl rfl rfl rfl rfl
      rfl rfl ?_ ?_
    · rw [abortAttempt_eq]
      rcases hst with hst | hst <;> simpa [hst] using hobs
    · intro hr
      rcases hst with hst | hst <;> exact absurd (hst.symm.trans (hreset hr)) (by decide)

/-! ### Network time and lock (R78, R88, R90, R97) -/

theorem timeSound_congr {s t : State} (htime : t.time = s.time) (hst : t.ctl.state = s.ctl.state)
    (hmicro : t.clock.microDue = s.clock.microDue) (h : TimeSound s) : TimeSound t := by
  unfold TimeSound at *
  simpa only [htime, hst, hmicro] using h

/-- In CONFIG network time stands at 0 and nothing runs (R99). -/
theorem timeSound_config {t : State} {trim : Fin 16} (htime : t.time = TimeUnit.initial trim)
    (hst : t.ctl.state = .config) (hmicro : t.clock.microDue = false) : TimeSound t := by
  simp [TimeSound, htime, TimeUnit.initial, hst, hmicro]

/-- The mark of an outstanding SYNC is no part of the Time Unit's own soundness. -/
theorem timeSound_ownSync {s : State} (b : Bool) (h : TimeSound s) :
    TimeSound (s.setTime { s.time with ownSync := b }) := h

/-- Every elementary change keeps network time and lock sound, while a SYNC is queued only with its owner's word. -/
theorem Change.keeps_time {s t : State} (hc : Change s t) (howners : OwnersSound s) (h : TimeSound s) : TimeSound t := by
  have same {u : State} (htime : u.time = s.time) (hctl : u.ctl = s.ctl) (hclock : u.clock = s.clock) : TimeSound u :=
    timeSound_congr htime (by rw [hctl]) (by rw [hclock]) h
  cases hc with
  | beside hb => exact hb.time h
  | line hl => exact hl.rest ▸ same (by simp) (by simp) (by simp)
  | proposer hp => exact hp.rest ▸ same (by simp) (by simp) (by simp)
  | syncSent a ha hr hf =>
    obtain ⟨hatt, hacc⟩ := ownersSound_iff.mp howners
    have hown : s.time.ownSync = true := by
      have hcount := hacc.sync
      have hpos : 0 < s.line.queue.countP isSync := List.countP_pos_iff.mpr ⟨_, hatt.entry_mem ha hr, hf⟩
      by_contra hne
      rw [Bool.eq_false_iff.mpr hne] at hcount
      exact absurd hcount hpos.ne'
    obtain ⟨hlock, hmem⟩ := hacc.locked hown
    obtain ⟨hrun, hsup, hself, hsync, hjoin, hconf, hslew⟩ := h
    refine ⟨hrun, ?_, hself, ?_, hjoin, hconf, hslew⟩
    · simp [hlock]
    · simp [hmem]
  | freed =>
    unfold freedAt
    split <;> exact same (by simp [putRecord, releaseItems]) (by simp [putRecord, releaseItems])
      (by simp [putRecord, releaseItems])
  | swapped c w hw =>
    obtain ⟨claims, hclaims⟩ := releaseClaim_eq c w.set (s.setChans (s.chans.set c.val
      { s.chans[c] with active := w.program, anchor := w.boundary, pending := none }))
    exact hclaims ▸ same (by simp) (by simp) (by simp)
  | syncOffered =>
    rw [offerSync_eq]
    exact timeSound_congr (s := s.setTime { s.time with ownSync := queueHasRoom s }) (by simp) (by simp) (by simp)
      (timeSound_ownSync _ h)
  | presenceOffered =>
    cases hown : s.memb.ownPresence with
    | true => rw [offerPresence_outstanding hown]; exact h
    | false => rw [offerPresence_eq hown]; exact same (by simp) (by simp) (by simp)
  | relocked x _ _ htime => exact htime howners h
  | syncWithdrawn x _ _ _ htime =>
    exact timeSound_congr (s := s.setTime x) (by simp) (by simp) (by simp) (htime howners h)
  | strayWithdrawn x hown hany =>
    have hcount := (ownersSound_iff.mp howners).2.sync
    rw [hown, List.countP_eq_zero.mpr (by simpa using hany)] at hcount
    cases hcount
  | joined x _ _ htime =>
    exact timeSound_congr (s := (s.setTime x).setCtl { s.ctl with state := .member }) (by simp) (by simp) (by simp)
      (htime howners h)
  | outputsLost => exact same (by simp [outputsLoseLock]) (by simp [outputsLoseLock]) (by simp [outputsLoseLock])
  | table => exact same (by simp [putRecord]) (by simp [putRecord]) (by simp [putRecord])
  | voted =>
    exact same (by simp [claimItems, putRecord]) (by simp [claimItems, putRecord]) (by simp [claimItems, putRecord])
  | applied =>
    exact same (by simp [putRecord, handover]) (by simp [putRecord, handover]) (by simp [putRecord, handover])
  | reset ctl hctl => exact timeSound_config rfl hctl rfl
  | restarted => exact timeSound_config rfl rfl rfl
  | started hconfig =>
    obtain ⟨-, -, -, -, -, hconf, -⟩ := h
    simp [TimeSound, startStation, observe, TimeUnit.initial]
  | faulted hst =>
    rw [enterFaulted_eq]
    obtain ⟨hrun, hsup, hself, hsync, hjoin, hconf, hslew⟩ := h
    have hne : s.ctl.state ≠ .config := by rcases hst with hst | hst <;> simp [hst]
    refine ⟨?_, hsup, ?_, ?_, nofun, nofun, hslew⟩
    · simpa [hne] using hrun
    · simp
    · simpa [hne] using hsync
  | _ => exact same (by simp) (by simp) (by simp)

end Sys2Proof.Machine


/-! PROOFS. The elementary changes that each command and each act is made of. -/

namespace Sys2Proof.Machine

/-! ### Changes of one unit beside the outputs, the records, the proposal and the line -/

theorem changes_setNotes {s : State} (x : NoticeUnit) (h : NoticesSound s → NoticesSound (s.setNotes x)) :
    Changes s (s.setNotes x) :=
  .single <| .beside
    { ctl := by simp, chans := by simp, part := by simp, prop := by simp, line := by simp, ownSync := by simp
      lock := by simp, ownPresence := by simp, time := id, members := id, capture := id, notices := h, station := id }

theorem changes_setPort {s : State} (x : LocalPort) : Changes s (s.setPort x) :=
  .single <| .beside
    { ctl := by simp, chans := by simp, part := by simp, prop := by simp, line := by simp, ownSync := by simp
      lock := by simp, ownPresence := by simp, time := id, members := id, capture := id, notices := id, station := id }

theorem changes_setPending {s : State} (x : List Instr) : Changes s (s.setPending x) :=
  .single <| .beside
    { ctl := by simp, chans := by simp, part := by simp, prop := by simp, line := by simp, ownSync := by simp
      lock := by simp, ownPresence := by simp, time := id, members := id, capture := id, notices := id, station := id }

theorem changes_setClock {s : State} (x : Clock) (h : TimeSound s → TimeSound (s.setClock x)) :
    Changes s (s.setClock x) :=
  .single <| .beside
    { ctl := by simp, chans := by simp, part := by simp, prop := by simp, line := by simp, ownSync := by simp
      lock := by simp, ownPresence := by simp, time := h, members := id, capture := id, notices := id, station := id }

theorem changes_setCapt {s : State} (x : Capture) (h : CaptureSound s → CaptureSound (s.setCapt x)) :
    Changes s (s.setCapt x) :=
  .single <| .beside
    { ctl := by simp, chans := by simp, part := by simp, prop := by simp, line := by simp, ownSync := by simp
      lock := by simp, ownPresence := by simp, time := id, members := id, capture := h, notices := id, station := id }

theorem changes_setTime {s : State} (x : TimeUnit) (hown : x.ownSync = s.time.ownSync) (hlock : x.lock = s.time.lock)
    (h : TimeSound s → TimeSound (s.setTime x)) : Changes s (s.setTime x) :=
  .single <| .beside
    { ctl := by simp, chans := by simp, part := by simp, prop := by simp, line := by simp, ownSync := by simpa using hown
      lock := by simpa using hlock, ownPresence := by simp, time := h, members := id, capture := id, notices := id
      station := stationSound_congr (by simp) (by simp) (by simp) (by simp) (by simp) (by simpa using hown) (by simp)
        (by simp) (by simp) }

theorem changes_setMemb {s : State} (x : Membership) (hown : x.ownPresence = s.memb.ownPresence)
    (hmembers : MembersSound s → MembersSound (s.setMemb x)) (hint : s.memb.interval = none → x.interval = none)
    (hper : s.memb.presence = none → x.presence = none) : Changes s (s.setMemb x) :=
  .single <| .beside
    { ctl := by simp, chans := by simp, part := by simp, prop := by simp, line := by simp, ownSync := by simp
      lock := by simp, ownPresence := by simpa using hown, time := id, members := hmembers, capture := id, notices := id
      station := fun ⟨hquiet, hrest⟩ => ⟨fun hne => by
        obtain ⟨hpart, hprop, hchans, hqueue, hatt, hreplies, hres, hmute, hsync, hpres, hi, hp⟩ := hquiet hne
        exact ⟨hpart, hprop, hchans, hqueue, hatt, hreplies, hres, hmute, hsync, hown.trans hpres, hint hi, hper hp⟩, hrest⟩ }

/-- A notice other than CAPTURE may be raised at any time (R174). -/
theorem changes_raise {n : Notice} (hn : n ≠ .capture) (s : State) : Changes s (raise n s) := by
  refine changes_setNotes _ fun h => ?_
  have hbit : n.mask.getLsbD 10 = false := by cases n <;> first | rfl | exact absurd rfl hn
  change (s.notes.flags ||| n.mask).getLsbD 10 = false
  rw [BitVec.getLsbD_or, hbit, Bool.or_false]
  exact h

theorem changes_raiseIf {n : Notice} (hn : n ≠ .capture) (b : Bool) (s : State) : Changes s (raiseIf b n s) := by
  cases b with
  | true => exact changes_raise hn s
  | false => exact .refl

theorem changes_clearNotice (n : Notice) (s : State) : Changes s (clearNotice n s) := by
  refine changes_setNotes _ fun h => ?_
  change (s.notes.flags &&& ~~~n.mask).getLsbD 10 = false
  rw [BitVec.getLsbD_and, h, Bool.false_and]

theorem changes_countChoice (s : State) : Changes s (countChoice s) := changes_setClock _ id

/-! ### Changes of the line -/

/-- The line changes and its queue and the rest of the block stay: what has to be shown. -/
theorem changes_setLine {s : State} (x : LineController) (hqueue : x.queue = s.line.queue)
    (hatt : x.attempt = s.line.attempt ∨ x.attempt = none) (hreplies : ∀ r ∈ x.replies, r ∈ s.line.replies)
    (hcounts : LineSound s → LineSound (s.setLine x))
    (hobs : StationSound s → (x.observed = none ↔ s.line.observed = none))
    (hres : s.line.reservation = none → x.reservation = none ∨ (StationSound s → s.ctl.state = .member))
    (hmute : s.line.mute = none → x.mute = none ∨ (StationSound s → s.ctl.state = .member)) : Changes s (s.setLine x) := by
  refine .single <| .line
    { rest := by simp, queue := by simpa using hqueue, attempt := by simpa using hatt, replies := by simpa using hreplies
      counts := hcounts, station := fun h => ?_ }
  have hobs := hobs h
  obtain ⟨hquiet, hline, hreset⟩ := h
  refine ⟨fun hne => ?_, hobs.trans hline, hreset⟩
  obtain ⟨hpart, hprop, hchans, hq, ha, hr, hs, hm, hrest⟩ := hquiet hne
  have member : ¬ (StationSound s → s.ctl.state = .member) := fun h => hne (h ⟨hquiet, hline, hreset⟩)
  refine ⟨hpart, hprop, hchans, hqueue.trans hq, hatt.elim (·.trans ha) id, ?_, ?_, ?_, hrest⟩
  · exact List.eq_nil_iff_forall_not_mem.mpr fun r hmem => List.not_mem_nil (hr ▸ hreplies r hmem)
  · exact (hres hs).resolve_right member
  · exact (hmute hm).resolve_right member

/-- The counts of the line that no part of a state but its line fixes. -/
theorem lineSound_setLine {s : State} {x : LineController} (hcount : x.counters = s.line.counters)
    (hfail : x.failures = s.line.failures) (hmute : x.mute = s.line.mute)
    (hatt : x.attempt = none ∨ x.attempt = s.line.attempt ∨ s.line.mute = none) (h : LineSound s) :
    LineSound (s.setLine x) :=
  lineSound_congr (by simpa using hcount) (by simpa using hfail) (by simpa using hmute) (by simpa using hatt) h

theorem changes_withCounters {s : State} {f : Counters → Counters}
    (h : CountersSound s.line.counters → CountersSound (f s.line.counters)) : Changes s (withCounters f s) :=
  changes_setLine _ rfl (.inl rfl) (fun _ => id) (fun hs => ⟨h hs.1, hs.2⟩) (fun _ => Iff.rfl) .inl .inl

theorem changes_countCrcError (s : State) : Changes s (countCrcError s) :=
  changes_withCounters fun ⟨_, h⟩ => ⟨countUp_le _, h⟩

theorem changes_countMalformed (s : State) : Changes s (countMalformed s) :=
  changes_withCounters fun ⟨h₁, _, h⟩ => ⟨h₁, countUp_le _, h⟩

theorem changes_countUnknownKind (s : State) : Changes s (countUnknownKind s) :=
  changes_withCounters fun ⟨h₁, h₂, _, h⟩ => ⟨h₁, h₂, countUp_le _, h⟩

theorem changes_countArbitrationLoss (s : State) : Changes s (countArbitrationLoss s) :=
  changes_withCounters fun ⟨h₁, h₂, h₃, _, h⟩ => ⟨h₁, h₂, h₃, countUp_le _, h⟩

theorem changes_countBitError (s : State) : Changes s (countBitError s) :=
  changes_withCounters fun ⟨h₁, h₂, h₃, h₄, _, h⟩ => ⟨h₁, h₂, h₃, h₄, countUp_le _, h⟩

theorem changes_countBreak (s : State) : Changes s (countBreak s) :=
  changes_withCounters fun ⟨h₁, h₂, h₃, h₄, h₅, _, h⟩ => ⟨h₁, h₂, h₃, h₄, h₅, countUp_le _, h⟩

theorem changes_countMute (s : State) : Changes s (countMute s) :=
  changes_withCounters fun ⟨h₁, h₂, h₃, h₄, h₅, h₆, _, h⟩ => ⟨h₁, h₂, h₃, h₄, h₅, h₆, countUp_le _, h⟩

theorem changes_countAnomaly (s : State) : Changes s (countAnomaly s) :=
  changes_withCounters fun ⟨h₁, h₂, h₃, h₄, h₅, h₆, h₇, _⟩ => ⟨h₁, h₂, h₃, h₄, h₅, h₆, h₇, countUp_le _⟩

/-- The observed line moves between states other than that of CONFIG (R114). -/
theorem changes_observe {s : State} (l : LineState) (h : StationSound s → s.line.observed ≠ none) : Changes s (observe l s) :=
  changes_setLine _ rfl (.inl rfl) (fun _ => id) (lineSound_setLine rfl rfl rfl (.inr (.inl rfl)))
    (fun hs => by simp [h hs]) .inl .inl

theorem changes_endFrame (cutShort : Bool) (s : State) : Changes s (endFrame cutShort s) := by
  unfold endFrame
  split
  next hobs =>
    split
    · exact changes_setLine _ rfl (.inl rfl) (fun _ => id) (lineSound_setLine rfl rfl rfl (.inr (.inl rfl)))
        (fun _ => by simp [hobs]) .inl .inl
    · exact changes_observe _ fun _ => by simp [hobs]
  next => exact .refl

theorem changes_beginFrame {s : State} (h : StationSound s → s.line.observed ≠ none) : Changes s (beginFrame s) :=
  changes_setLine _ rfl (.inl rfl) (fun _ => id) (lineSound_setLine rfl rfl rfl (.inr (.inl rfl)))
    (fun hs => by simp [observe, h hs]) .inl .inl

theorem changes_takeSample (s : State) : Changes s (takeSample s) := changes_setTime _ rfl rfl id

/-- The attempt in progress fails (R122). -/
theorem changes_failAttempt {s : State} {a : Attempt} (ha : s.line.attempt = some a) : Changes s (failAttempt s) := by
  have member : StationSound s → s.ctl.state = .member := fun h => h.member_of_attempt ha
  unfold failAttempt
  simp only
  split
  next hlimit =>
    refine .trans ?_ (.trans (changes_countMute _) (changes_raise (by decide) _))
    refine changes_setLine _ rfl (.inr rfl) (fun _ => id) (fun h => ?_) (fun _ => Iff.rfl) .inl fun _ => .inr member
    exact ⟨h.1, Nat.min_le_right _ _, iff_of_true rfl hlimit, fun _ => rfl⟩
  next hbelow =>
    refine changes_setLine _ rfl (.inr rfl) (fun _ => id) (fun h => ?_) (fun _ => Iff.rfl) .inl .inl
    obtain ⟨hcount, hle, hiff, hquiet⟩ := h
    have hmute : s.line.mute.isSome = false := by
      by_contra hm
      exact absurd (ha.symm.trans (hquiet (Bool.of_not_eq_false hm))) nofun
    refine ⟨hcount, Nat.min_le_right _ _, ?_, fun _ => rfl⟩
    simpa [hmute] using hbelow

end Sys2Proof.Machine


/-! PROOFS. The changes that a record's life is made of: the queue entries of its INQUIREs, staging, the vote, the decision, the
epoch (Chapter 2). -/

namespace Sys2Proof.Machine

/-! ### Offers, withdrawals and freed entries (R62, R115, R116) -/

theorem mapProposal_active {s : State} {p : Proposal} (h : s.prop.activity = .active p) (f : Proposal → Proposal) :
    mapProposal f s = s.setProp { s.prop with activity := .active (f p) } := by
  simp only [mapProposal, h]

theorem mapProposal_inactive {s : State} (h : ∀ p, s.prop.activity ≠ .active p) (f : Proposal → Proposal) :
    mapProposal f s = s := by
  unfold mapProposal
  split
  next p hp => exact absurd hp (h p)
  next => rfl

theorem offerProposalFrame_active {s : State} {p : Proposal} (h : s.prop.activity = .active p) (f : Frame) :
    offerProposalFrame f s = (offer f s).setProp
      { s.prop with activity := .active { p with outstanding := some { frame := f, queued := queueHasRoom s } } } := by
  rw [offerProposalFrame, mapProposal_active (by rw [offer_prop]; exact h), offer_prop]

/-- A proposal that is written back leaves the state as it is. -/
theorem setProp_activity_self {s : State} {a : Activity} (h : s.prop.activity = a) :
    s.setProp { s.prop with activity := a } = s := by
  subst h; rfl

/-- What the report of a freed entry does: the proposal's frame that waits for room takes its place when there is some (R62). -/
theorem changes_entryFreed (s : State) : Changes s (entryFreed s) := by
  unfold entryFreed
  split
  next p hp =>
    split
    next out ho =>
      split
      · exact .refl
      next hq =>
        obtain ⟨f, queued⟩ := out
        obtain rfl : queued = false := Bool.eq_false_iff.mpr hq
        rw [offerProposalFrame_active hp]
        cases hroom : queueHasRoom s with
        | true => rw [offer_accepted hroom]; exact .single (.placed p f hp ho hroom)
        | false =>
          have hself : ({ p with outstanding := some { frame := f, queued := false } } : Proposal) = p := by rw [← ho]
          rw [offer_refused hroom, hself, setProp_activity_self hp]
    · exact .refl
  · exact .refl

theorem withdrawFrame_eq (which : Frame → Bool) (s : State) :
    withdrawFrame which s =
      if s.line.queue.any which then entryFreed (s.setLine (lineWithout which s)) else s := by
  unfold withdrawFrame lineWithout
  split
  · split
    · rw [abortAttempt_eq]; rfl
    · rfl
  · rfl

/-- A frame of no owner is withdrawn (R37, R116). -/
theorem changes_withdrawFrame {which : Frame → Bool} (hwhich : ∀ f, which f = true → Unowned f) (s : State) :
    Changes s (withdrawFrame which s) := by
  rw [withdrawFrame_eq]
  split
  next hany => exact .head (.withdrawn which hwhich hany) (changes_entryFreed _)
  next => exact .refl

theorem changes_withdrawInquire (set : SetId) (s : State) : Changes s (withdrawFrame (isInquireFor set) s) :=
  changes_withdrawFrame (fun _ => unowned_inquire) s

/-- A frame of no owner is offered (R115). -/
theorem changes_offer {f : Frame} {s : State} (hf : Unowned f) (hsrc : f.src = s.ctl.number)
    (hm : StationSound s → s.ctl.state = .member) : Changes s (offer f s) := by
  cases hroom : queueHasRoom s with
  | true => rw [offer_accepted hroom]; exact .single (.offered f hf hsrc hroom hm)
  | false => rw [offer_refused hroom]

/-! ### Records freed (R25, R27, R49, R50) -/

theorem freeRecord_eq {i : Fin 4} {r : SetRecord} {s : State} (hi : s.part.table[i] = some r) :
    freeRecord i s = withdrawFrame (isInquireFor r.set) (freedAt i r s) := by
  simp only [freeRecord, hi, freedAt]

theorem changes_freeRecord (i : Fin 4) (s : State) : Changes s (freeRecord i s) := by
  cases hi : s.part.table[i] with
  | none => rw [freeRecord_empty hi]
  | some r => rw [freeRecord_eq hi]; exact .head (.freed i r hi) (changes_withdrawInquire _ _)

/-- A fold of changes. -/
theorem changes_foldl {α : Type} {f : State → α → State} (h : ∀ t a, Changes t (f t a)) (l : List α) (s : State) :
    Changes s (l.foldl f s) := by
  induction l generalizing s with
  | nil => exact .refl
  | cons a l ih => exact (h s a).trans (ih _)

theorem changes_freeMatching (which : SetRecord → Bool) (s : State) : Changes s (freeMatching which s) := by
  refine .trans (changes_foldl (fun t i => ?_) _ s) (changes_raiseIf (by decide) _ _)
  split
  · exact changes_freeRecord i t
  · exact .refl

/-- A position holds a record that satisfies a predicate: the record. -/
theorem holdsRecord_iff {which : SetRecord → Bool} {s : State} {i : Fin 4} :
    holdsRecord which s i = true ↔ ∃ r, s.part.table[i] = some r ∧ which r = true := by
  unfold holdsRecord
  split
  next r hr => simp [hr]
  next hn => simp [hn]

/-! ### A record changes at its place -/

/-- A record that holds the same channels takes the place of another. -/
theorem changes_replace {s : State} {i : Fin 4} {r r' : SetRecord} (hi : s.part.table[i] = some r)
    (hset : r'.set = r.set) (hself : r'.self = r.self) (hholds : r'.state = .staging ↔ r.state = .staging)
    (hitems : r.state ≠ .staging → r'.items = r.items) (hrec : PositionSound s.ctl.number (some r) → RecordSound r')
    (hlen : StoreSound s → r'.items.length ≤ r.items.length + (Config.storeSlots - itemsHeld s)) :
    Changes s (putRecord i (some r') s) := by
  refine .single (.table i (some r') (fun c => ?_) (fun h => storeSound_replaced hi hset hself (fun _ => hrec (hi ▸ h.1 i)) (hlen h) h)
    fun h => h.member_of_record hi)
  simp only [recordHolder, putRecord_same, hi]
  by_cases hst : r.state = .staging
  · simp [hst, hholds.mpr hst]
  · simp [hst, mt hholds.mp hst, hitems hst, hset]

/-- An undecided record becomes ARMED (R38, R48). -/
theorem changes_armRecord {s : State} {i : Fin 4} {r : SetRecord} (hi : s.part.table[i] = some r)
    (hst : r.state ≠ .staging) : Changes s (armRecord i s) := by
  simp only [armRecord, hi]
  refine .trans (changes_replace (r' := { r with state := .armed, timer := none }) hi rfl rfl (by simp [hst])
    (fun _ => rfl) (fun h => ?_) fun _ => Nat.le_add_right _ _) (changes_withdrawInquire _ _)
  obtain ⟨⟨hitems, hinq, -, hvoted, -, -, hself⟩, -⟩ := h
  exact ⟨hitems, hinq, nofun, fun _ => hvoted hst, nofun, fun _ => rfl, fun hs => ⟨rfl, (hself hs).2.1, nofun⟩⟩

/-! ### The epoch (R42, R43, R48) -/

theorem changes_applyRecord {s : State} {i : Fin 4} (h : applyDue s i = true) : Changes s (applyRecord i s) := by
  obtain ⟨r, hi, hr⟩ := holdsRecord_iff.mp h
  obtain ⟨hst, -⟩ := Bool.and_eq_true_iff.mp hr
  simp only [applyRecord, hi]
  split
  next e he => exact .head (.applied i r e hi (beq_iff_eq.mp hst)) (changes_raise (by decide) _)
  next => exact .refl

/-- A list of bounded length without repeated keys stays one when a new entry takes the newest place: an older entry of its key
goes, and the oldest when the list is full (R26, R73). -/
theorem newest_in_bounded {α β : Type} [DecidableEq β] (key : α → β) (x : α) {l : List α} {n : Nat} (hn : 1 ≤ n)
    (hlen : l.length ≤ n) (hnodup : (l.map key).Nodup) {room : List α}
    (hroom : room = if (l.filter fun y => key y != key x).length < n then l.filter fun y => key y != key x
      else (l.filter fun y => key y != key x).drop 1) :
    (room ++ [x]).length ≤ n ∧ ((room ++ [x]).map key).Nodup ∧ ∀ y ∈ room, y ∈ l := by
  have hkept : (l.filter fun y => key y != key x).length ≤ n := (List.length_filter_le _ _).trans hlen
  have hsub : room.Sublist (l.filter fun y => key y != key x) := by
    rw [hroom]
    split
    · exact .refl _
    · exact List.drop_sublist _ _
  refine ⟨?_, ?_, fun y hy => List.mem_of_mem_filter (hsub.subset hy)⟩
  · rw [hroom]
    split
    · simpa using ‹_›
    · simp only [List.length_append, List.length_drop, List.length_singleton]
      omega
  · rw [List.map_append]
    refine List.Nodup.append (hnodup.sublist ((hsub.trans List.filter_sublist).map _)) (List.nodup_singleton _) ?_
    simp only [List.map_cons, List.map_nil, List.disjoint_singleton]
    intro hmem
    obtain ⟨y, hy, hkey⟩ := List.mem_map.mp hmem
    simpa [hkey] using List.of_mem_filter (hsub.subset hy)

/-- The list of closed sets with one more entry keeps to its rules (R26). -/
theorem closedSound_addClosed (set : SetId) (kind : ClosureKind) {s : State} (h : ClosedSound s) :
    ClosedSound (addClosed set kind s) := by
  obtain ⟨hlen, hkeys, -⟩ := newest_in_bounded (·.set) ({ set := set, kind := kind, missedSent := false } : ClosedEntry)
    (by decide) h.1 h.2 rfl
  exact ⟨hlen, hkeys⟩

theorem changes_addClosed {s : State} (set : SetId) (kind : ClosureKind) (hm : StationSound s → s.ctl.state = .member) :
    Changes s (addClosed set kind s) :=
  .single (.closed _ (closedSound_addClosed set kind) hm)

/-- The line without a frame turns on the line, the time and the rate. -/
theorem lineWithout_congr {s t : State} (hline : t.line = s.line) (hclock : t.clock = s.clock) (hctl : t.ctl = s.ctl)
    (which : Frame → Bool) : lineWithout which t = lineWithout which s := by
  have hrate : ∀ n, bits t n = bits s n := fun n => by rw [bits, bits, hctl]
  have hend : ∀ a, characterEnd t a = characterEnd s a := fun a => by
    simp only [characterEnd, bitsSince, hrate, hclock, hctl]
  have hmatch : attemptMatches which t = attemptMatches which s := by unfold attemptMatches; rw [hline]
  unfold lineWithout
  rw [hmatch]
  split
  · simp only [abortAttempt_eq, State.setLine_line, hline, hclock, hend]
  · rw [hline]

/-- An update of units that a freed entry and a withdrawal neither read nor change. -/
structure Apart (g : State → State) : Prop where
  clock : ∀ t, (g t).clock = t.clock
  ctl : ∀ t, (g t).ctl = t.ctl
  prop : ∀ t, (g t).prop = t.prop
  line : ∀ t, (g t).line = t.line
  setLine : ∀ t l, g (t.setLine l) = (g t).setLine l
  setProp : ∀ t q, g (t.setProp q) = (g t).setProp q

theorem apart_addClosed (set : SetId) (kind : ClosureKind) : Apart (addClosed set kind) where
  clock _ := rfl
  ctl _ := rfl
  prop _ := rfl
  line _ := rfl
  setLine _ _ := rfl
  setProp _ _ := rfl

theorem apart_raise (n : Notice) : Apart (raise n) where
  clock _ := rfl
  ctl _ := rfl
  prop _ := rfl
  line _ := rfl
  setLine _ _ := rfl
  setProp _ _ := rfl

theorem Apart.offer {g : State → State} (hg : Apart g) (f : Frame) (s : State) : offer f (g s) = g (offer f s) := by
  rw [offer_eq, offer_eq, hg.setLine, hg.line, queueHasRoom, queueHasRoom, hg.line]

theorem Apart.entryFreed {g : State → State} (hg : Apart g) (s : State) : entryFreed (g s) = g (entryFreed s) := by
  unfold Machine.entryFreed
  rw [hg.prop]
  split
  next p hp =>
    split
    · split
      · rfl
      · rw [offerProposalFrame_active hp, offerProposalFrame_active ((congrArg Proposer.activity (hg.prop s)).trans hp), hg.setProp,
          hg.offer, hg.prop, queueHasRoom, queueHasRoom, hg.line]
    · rfl
  · rfl

theorem Apart.lineWithout {g : State → State} (hg : Apart g) (which : Frame → Bool) (s : State) :
    lineWithout which (g s) = lineWithout which s :=
  lineWithout_congr (hg.line s) (hg.clock s) (hg.ctl s) which

theorem Apart.withdrawFrame {g : State → State} (hg : Apart g) (which : Frame → Bool) (s : State) :
    withdrawFrame which (g s) = g (withdrawFrame which s) := by
  rw [withdrawFrame_eq, withdrawFrame_eq, hg.line, hg.lineWithout, ← hg.setLine, hg.entryFreed]
  exact (apply_ite g _ _ _).symm

/-- Freeing a record neither reads nor changes the recently-closed list (R26). -/
theorem freeRecord_addClosed (i : Fin 4) (set : SetId) (kind : ClosureKind) (s : State) :
    freeRecord i (addClosed set kind s) = addClosed set kind (freeRecord i s) := by
  have hfreed (r : SetRecord) : freedAt i r (addClosed set kind s) = addClosed set kind (freedAt i r s) := by
    unfold freedAt
    split <;> rfl
  cases hi : s.part.table[i] with
  | none => rw [freeRecord_empty hi, freeRecord_empty (s := addClosed set kind s) hi]
  | some r =>
    rw [freeRecord_eq hi, freeRecord_eq (s := addClosed set kind s) hi, hfreed,
      (apart_addClosed set kind).withdrawFrame]

theorem changes_expireRecord (i : Fin 4) (s : State) : Changes s (expireRecord i s) := by
  unfold expireRecord
  split
  next r hi =>
    rw [← freeRecord_addClosed]
    exact (changes_addClosed _ _ fun h => h.member_of_record hi).trans
      ((changes_freeRecord i _).trans (changes_raise (by decide) _))
  next => exact .refl

theorem changes_expireSelf (i : Fin 4) (s : State) : Changes s (expireSelf i s) :=
  (changes_freeRecord i s).trans (changes_raise (by decide) _)

theorem changes_meetRecord (i : Fin 4) (s : State) : Changes s (meetRecord i s) := by
  unfold meetRecord
  split
  next h => exact changes_applyRecord h
  next =>
    split
    · exact changes_expireRecord i s
    · split
      · exact changes_expireSelf i s
      · exact .refl

theorem changes_completeSwap (c : Fin 16) (s : State) : Changes s (completeSwap c s) := by
  unfold completeSwap
  split
  next w hw =>
    split
    · exact .head (.swapped c w hw) (changes_raise (by decide) _)
    · exact .refl
  next => exact .refl

end Sys2Proof.Machine


/-! PROOFS. The changes that a STAGE, a CALL, a decision and an INQUIRE attempt make (Chapter 2). -/

namespace Sys2Proof.Machine

/-! ### The items of a STAGE (R30) -/

/-- R4's validity of an item, as the model computes it. -/
theorem validItem_of_itemValid {it : Item} (h : itemValid it = true) : validItem it := (itemValid_iff it).mp h

/-- Items in ascending channel order stay so when one is inserted whose channel is not among them. -/
theorem insertItem_perm (it : Item) (items : List Item) : (insertItem it items).Perm (it :: items) := by
  induction items with
  | nil => exact .refl _
  | cons x rest ih =>
    rw [insertItem]
    split
    · exact (ih.cons x).trans (.swap _ _ _)
    · exact .refl _

theorem insertItem_ascending {it : Item} {items : List Item}
    (hnew : items.any (fun x => x.channel == it.channel) = false)
    (h : items.Pairwise fun a b => a.channel.toNat < b.channel.toNat) :
    (insertItem it items).Pairwise fun a b => a.channel.toNat < b.channel.toNat := by
  induction items with
  | nil => exact List.pairwise_singleton _ _
  | cons x rest ih =>
    obtain ⟨hx, hrest⟩ := List.pairwise_cons.mp h
    obtain ⟨hne, hnew'⟩ := Bool.or_eq_false_iff.mp ((List.any_cons ..).symm.trans hnew)
    have hnat : x.channel.toNat ≠ it.channel.toNat := fun he => by
      rw [BitVec.eq_of_toNat_eq he, beq_self_eq_true] at hne; cases hne
    rw [insertItem]
    split
    next hlt =>
      refine List.pairwise_cons.mpr ⟨fun y hy => ?_, ih hnew' hrest⟩
      rcases List.mem_cons.mp ((insertItem_perm it rest).mem_iff.mp hy) with rfl | hy'
      · exact hlt
      · exact hx y hy'
    next hge =>
      refine List.pairwise_cons.mpr ⟨fun y hy => ?_, h⟩
      rcases List.mem_cons.mp hy with rfl | hy'
      · omega
      · have := hx y hy'; omega

/-- A replacement of the item of a channel keeps the channels. -/
theorem replaceItem_channels (it : Item) (items : List Item) :
    (replaceItem it items).map (·.channel) = items.map (·.channel) := by
  rw [replaceItem, List.map_map]
  refine List.map_congr_left fun x _ => ?_
  simp only [Function.comp_apply]
  split
  next h => exact h.symm
  next => rfl

/-- The items of a record after one more item: sound, and at most one slot more (R30). -/
theorem stageItem_items {free : Nat} {r : SetRecord} {it : Item} (h : ItemsSound r.items) :
    ItemsSound (stageItem free r it).items ∧ r.items.length ≤ (stageItem free r it).items.length ∧
      (stageItem free r it).items.length ≤ r.items.length + free := by
  obtain ⟨hasc, hvalid⟩ := h
  unfold stageItem
  split
  next => exact ⟨⟨hasc, hvalid⟩, le_rfl, Nat.le_add_right _ _⟩
  next hv =>
    have hit : validItem it := validItem_of_itemValid (by simpa using hv)
    split
    next hheld =>
      refine ⟨⟨?_, fun x hx => ?_⟩, by simp [replaceItem], by simp [replaceItem]⟩
      · have hmap : (r.items.map (·.channel)).Pairwise fun a b => a.toNat < b.toNat := List.pairwise_map.mpr hasc
        rw [← replaceItem_channels it] at hmap
        exact (List.pairwise_map (f := fun x : Item => x.channel)).mp hmap
      · obtain ⟨y, hy, rfl⟩ := List.mem_map.mp hx
        split
        · exact hit
        · exact hvalid y hy
    next hnew =>
      split
      next hfree =>
        have hlen := (insertItem_perm it r.items).length_eq
        refine ⟨⟨insertItem_ascending (by simpa using hnew) hasc, fun x hx => ?_⟩, by simp [hlen], by simp [hlen]; omega⟩
        rcases List.mem_cons.mp ((insertItem_perm it r.items).mem_iff.mp hx) with rfl | hx'
        · exact hit
        · exact hvalid x hx'
      next => exact ⟨⟨hasc, hvalid⟩, le_rfl, Nat.le_add_right _ _⟩

/-- What a STAGE leaves of a record: all but its items and its flags (R30). -/
theorem stageItem_frame (free : Nat) (r : SetRecord) (it : Item) :
    ∃ items short invalid, stageItem free r it = { r with items := items, short := short, invalid := invalid } := by
  unfold stageItem
  split
  · exact ⟨r.items, r.short, true, rfl⟩
  · split
    · exact ⟨_, r.short, r.invalid, rfl⟩
    · split
      · exact ⟨_, r.short, r.invalid, rfl⟩
      · exact ⟨r.items, true, r.invalid, rfl⟩

theorem stageItems_frame (items : List Item) (free : Nat) (r : SetRecord) :
    ∃ held short invalid, stageItems free r items = { r with items := held, short := short, invalid := invalid } := by
  induction items generalizing free r with
  | nil => exact ⟨_, _, _, rfl⟩
  | cons it rest ih =>
    obtain ⟨held, short, invalid, h⟩ := stageItem_frame free r it
    simp only [stageItems]
    rw [h]
    exact ih _ _

/-- The items of a record after a STAGE: sound, and within the free slots (R30). -/
theorem stageItems_items (items : List Item) {free : Nat} {r : SetRecord} (h : ItemsSound r.items) :
    ItemsSound (stageItems free r items).items ∧ (stageItems free r items).items.length ≤ r.items.length + free := by
  induction items generalizing free r with
  | nil => exact ⟨h, Nat.le_add_right _ _⟩
  | cons it rest ih =>
    obtain ⟨hsound, hge, hle⟩ := stageItem_items (free := free) (it := it) h
    obtain ⟨hrest, hlen⟩ := ih (free := free - ((stageItem free r it).items.length - r.items.length)) hsound
    exact ⟨hrest, by simp only [stageItems]; omega⟩

/-- The free-slot count is what the records leave of the store (R25). -/
theorem freeSlots_eq_itemsHeld (s : State) : freeSlots s = Config.storeSlots - itemsHeld s := by
  rw [freeSlots_eq]; rfl

/-- A record of another station's set is filled from a STAGE (R30). -/
theorem changes_takeStage {s : State} {i : Fin 4} {r : SetRecord} (hi : s.part.table[i] = some r)
    (hst : r.state = .staging) (hforeign : r.set.proposer ≠ s.ctl.number) (items : List Item) :
    Changes s (takeStage i items s) := by
  simp only [takeStage, hi]
  obtain ⟨held, short, invalid, hframe⟩ := stageItems_frame items (freeSlots s) r
  have sound (h : PositionSound s.ctl.number (some r)) : ItemsSound held ∧ held.length ≤ r.items.length + freeSlots s := by
    have hitems := stageItems_items items (free := freeSlots s) h.1.1
    rwa [hframe] at hitems
  rw [hframe]
  refine changes_replace hi rfl rfl Iff.rfl (fun hne => absurd hst hne) (fun h => ?_) fun h => ?_
  · have hheld := (sound h).1
    obtain ⟨⟨-, hinq, hstaging, -, hquiet, -, -⟩, hown⟩ := h
    refine ⟨hheld, hinq, hstaging, fun hne => absurd hst hne, hquiet, fun ha => ?_, fun hself => ?_⟩
    · exact absurd (hst.symm.trans ha) (by decide)
    · exact absurd (hown.mp hself) hforeign
  · rw [← freeSlots_eq_itemsHeld]
    have hpos : PositionSound s.ctl.number (some r) := hi ▸ h.1 i
    exact (sound hpos).2

/-! ### Records found by their set id (R24) -/

theorem findRecord_some {s : State} {set : SetId} {i : Fin 4} (h : findRecord set s = some i) :
    ∃ r, s.part.table[i] = some r ∧ r.set = set := by
  obtain ⟨r, hi, hset⟩ := holdsRecord_iff.mp (List.find?_some h)
  exact ⟨r, hi, beq_iff_eq.mp hset⟩

theorem findRecord_none {s : State} {set : SetId} (h : findRecord set s = none) {i : Fin 4} {r : SetRecord}
    (hi : s.part.table[i] = some r) : r.set ≠ set := by
  intro hset
  have hpos : i ∈ positions := by fin_cases i <;> simp [positions]
  exact List.find?_eq_none.mp h i hpos (holdsRecord_iff.mpr ⟨r, hi, beq_iff_eq.mpr hset⟩)

theorem findSelf_some {s : State} {set : SetId} {i : Fin 4} (h : findSelf set s = some i) :
    ∃ r, s.part.table[i] = some r ∧ r.set = set ∧ r.self = true ∧ r.state ≠ .armed := by
  obtain ⟨r, hi, hr⟩ := holdsRecord_iff.mp (List.find?_some h)
  obtain ⟨⟨hset, hself⟩, hst⟩ : (r.set = set ∧ r.self = true) ∧ r.state ≠ .armed := by simpa using hr
  exact ⟨r, hi, hset, hself, hst⟩

theorem emptyPos_some {s : State} {i : Fin 4} (h : emptyPos s = some i) : s.part.table[i] = none := by
  simpa using List.find?_some h

/-- A new STAGING record takes an empty position (R29, R46). -/
theorem changes_newRecord {s : State} {i : Fin 4} {set : SetId} {items : List Item} {self : Bool}
    (hi : s.part.table[i] = none) (hnew : findRecord set s = none)
    (hself : StoreSound s → (self = true ↔ set.proposer = s.ctl.number)) (hitems : StoreSound s → ItemsSound items)
    (hlen : StoreSound s → items.length ≤ freeSlots s) (hm : StationSound s → s.ctl.state = .member) :
    Changes s (putRecord i (some (newRecord set items self)) s) := by
  refine .single (.table i _ (fun c => ?_) (fun h => ?_) hm)
  · rw [recordHolder_none hi, recordHolder_eq_none (putRecord_same i _ s) fun hne => hne.1 rfl]
  · refine storeSound_putRecord (i := i) (o := some (newRecord set items self)) ?_ (fun j _ => ?_) ?_ h
    · refine ⟨⟨hitems h, Nat.zero_le _, fun _ => ⟨rfl, rfl, rfl⟩, fun hne => absurd rfl hne, fun _ => rfl, nofun,
        fun _ => ⟨rfl, rfl, nofun⟩⟩, hself h⟩
    · cases hj : s.part.table[j] with
      | none => trivial
      | some q => exact (findRecord_none hnew hj).symm
    · rw [← freeSlots_eq_itemsHeld]
      exact (hlen h).trans (Nat.le_add_left _ _)

/-! ### STAGE (R29) -/

theorem changes_stageEffect {s : State} {set : SetId} (items : List Item) (hm : s.ctl.state = .member)
    (hforeign : set.proposer ≠ s.ctl.number) : Changes s (stageEffect set items s) := by
  unfold stageEffect
  split
  next i hfound =>
    obtain ⟨r, hi, rfl⟩ := findRecord_some hfound
    split
    next hst =>
      obtain ⟨q, hq, hqst⟩ := holdsRecord_iff.mp hst
      obtain rfl : r = q := Option.some.inj (hi.symm.trans hq)
      exact changes_takeStage hi (beq_iff_eq.mp hqst) hforeign items
    next => exact changes_countAnomaly s
  next hnone =>
    split
    · exact .refl
    · split
      · exact changes_countAnomaly s
      · split
        next i hempty =>
          refine .trans (changes_newRecord (emptyPos_some hempty) hnone (fun _ => iff_of_false Bool.false_ne_true hforeign)
            (fun _ => ⟨.nil, nofun⟩) (fun _ => Nat.zero_le _) fun _ => hm) ?_
          exact changes_takeStage (r := newRecord set [] false) (putRecord_same i _ s) rfl hforeign items
        next => exact changes_addClosed set .noRoom fun _ => hm

/-! ### The vote (R32 to R35, R47) -/

theorem changes_castVote {s : State} {found : Option (Fin 4)} {set : SetId} {count : Nat} {epoch : NetTime}
    {windowEnd : Option Instant}
    (hfound : ∀ i r, found = some i → s.part.table[i] = some r →
      r.set = set ∧ (windowEnd = none ∨ set.proposer ≠ s.ctl.number)) :
    Changes s (castVote found set count epoch windowEnd s) := by
  unfold castVote
  split
  next i =>
    split
    next r hi =>
      split
      next hst =>
        split
        next hready =>
          have hchecks : voteChecks s r count epoch = .ready := by
            simpa only [voteVerdict, hi, hst, if_true] using hready
          obtain ⟨rfl, hself⟩ := hfound i r rfl hi
          exact .single (.voted i r count epoch windowEnd hi hst hchecks hself)
        next => exact changes_freeRecord i s
      next => exact changes_countAnomaly s
    next => exact .refl
  next => exact .refl

/-- The blocks that freeing a record leaves as they are. -/
theorem freeRecord_ctl (i : Fin 4) (s : State) : (freeRecord i s).ctl = s.ctl := by
  rw [freeRecord_frame]; simp

theorem castVote_ctl (found : Option (Fin 4)) (set : SetId) (count : Nat) (epoch : NetTime) (windowEnd : Option Instant)
    (s : State) : (castVote found set count epoch windowEnd s).ctl = s.ctl := by
  obtain ⟨part, line, prop, h⟩ := castVote_frame found set count epoch windowEnd s
  rw [h]; simp

theorem changes_callEffect {s : State} {set : SetId} (epoch : NetTime) (targets : List CallEntry)
    (hm : s.ctl.state = .member) (hforeign : set.proposer ≠ s.ctl.number) :
    Changes s (callEffect set epoch targets s) := by
  unfold callEffect
  split
  next k count _ =>
    refine .tail (changes_castVote fun i r hi hr => ?_) (.reply _ rfl ?_)
    · obtain ⟨q, hq, hset⟩ := findRecord_some hi
      obtain rfl : q = r := Option.some.inj (hq.symm.trans hr)
      exact ⟨hset, .inr hforeign⟩
    · rw [castVote_ctl]; exact hm
  next => exact .refl

/-! ### Waiting for the decision (R36, R37) -/

/-- A record after one more INQUIRE attempt (R37). -/
def inquired (s : State) (r : SetRecord) : SetRecord :=
  { r with
    inquiries := r.inquiries + 1
    timer := if r.inquiries + 1 < Config.inquiryLimit then some s.clock.osc else none }

/-- A record makes an INQUIRE attempt: the record changes at its place, and then the INQUIRE may be offered. -/
theorem changes_inquire {s u : State} {i : Fin 4} {r : SetRecord} (hi : s.part.table[i] = some r)
    (hrecord : Changes u (putRecord i (some (inquired s r)) s)) : Changes u (inquire i s) := by
  simp only [inquire, hi]
  split
  · exact hrecord
  · exact hrecord.trans (changes_offer (unowned_inquire (set := r.set) (by simp [isInquireFor, ownFrame])) rfl
      fun h => h.member_of_record (putRecord_same i _ s))

/-- The record of an INQUIRE attempt is sound when an attempt was left and another station proposed the set (R36, R37). -/
theorem recordSound_inquired {s : State} {r : SetRecord} (hst : r.state ≠ .staging ∧ r.state ≠ .armed)
    (hself : r.self = false) (hinq : r.inquiries < Config.inquiryLimit) (h : RecordSound r) :
    RecordSound (inquired s { r with state := .inDoubt }) := by
  obtain ⟨hitems, -, -, hvoted, -, -, -⟩ := h
  exact ⟨hitems, hinq, nofun, fun _ => hvoted hst.1, nofun, nofun, fun hs => absurd hs (by simp [inquired, hself])⟩

theorem changes_decisionTimeout {s : State} {i : Fin 4} (h : decisionDue s i = true) :
    Changes s (inquire i (becomeInDoubt i s)) := by
  obtain ⟨r, hi, hr⟩ := holdsRecord_iff.mp h
  obtain ⟨⟨hst, hself⟩, -⟩ : (r.state = .voted ∧ r.self = false) ∧ _ := by simpa using hr
  simp only [becomeInDoubt, hi]
  refine changes_inquire (r := { r with state := .inDoubt }) (putRecord_same i _ s) ?_
  rw [putRecord_putRecord]
  refine changes_replace hi rfl rfl (by simp [inquired, hst]) (fun _ => rfl) (fun hpos => ?_)
    fun _ => Nat.le_add_right _ _
  have hnone : r.inquiries = 0 := hpos.1.2.2.2.2.1 (.inr hst)
  exact recordSound_inquired (by simp [hst]) hself (by rw [hnone]; decide) hpos.1

theorem changes_inquiryTimer {s : State} {i : Fin 4} (h : inquiryDue s i = true) : Changes s (inquire i s) := by
  obtain ⟨r, hi, hr⟩ := holdsRecord_iff.mp h
  obtain ⟨⟨hst, hinq⟩, -⟩ : (r.state = .inDoubt ∧ r.inquiries < Config.inquiryLimit) ∧ _ := by simpa using hr
  refine changes_inquire hi (changes_replace hi rfl rfl Iff.rfl (fun _ => rfl) (fun hpos => ?_)
    fun _ => Nat.le_add_right _ _)
  obtain ⟨hrec, -⟩ := hpos
  have hself : r.self = false := by
    by_contra hs
    obtain ⟨-, -, -, -, -, -, hself⟩ := hrec
    exact (hself (Bool.of_not_eq_false hs)).2.2 hst
  have hsame : ({ r with state := .inDoubt } : SetRecord) = r := by rw [← hst]
  exact hsame ▸ recordSound_inquired (s := s) (by simp [hst]) hself hinq hrec

/-! ### Decisions (R38 to R41) -/

theorem changes_answerMissed {s : State} (set : SetId) (hm : s.ctl.state = .member) : Changes s (answerMissed set s) := by
  unfold answerMissed
  split
  · split
    · refine .tail (changes_offer (f := ownFrame s (some set.proposer) (.missed set))
      (unowned_of_kind (.inr (.inr rfl))) rfl fun _ => hm) ?_
      rw [show s.part = (offer (ownFrame s (some set.proposer) (.missed set)) s).part from (offer_part _ s).symm]
      refine .closed _ (fun h => ?_) fun _ => by rw [offer_ctl]; exact hm
      obtain ⟨hlen, hnodup⟩ := h
      refine ⟨by simpa using hlen, ?_⟩
      have hsets : ∀ l : List ClosedEntry, (l.map fun e => if e.set = set ∧ e.kind = .expired then
          { e with missedSent := true } else e).map (·.set) = l.map (·.set) := fun l => by
        rw [List.map_map]
        refine List.map_congr_left fun e _ => ?_
        simp only [Function.comp_apply]
        split <;> rfl
      simpa only [State.setPart_part, hsets] using hnodup
    · exact .refl
  · exact .refl

theorem expireRecord_ctl (i : Fin 4) (s : State) : (expireRecord i s).ctl = s.ctl := by
  unfold expireRecord
  split
  · exact freeRecord_ctl i s
  · rfl

theorem changes_commitEffect {s : State} (quiet : Bool) (set : SetId) (hm : s.ctl.state = .member) :
    Changes s (commitEffect quiet set s) := by
  unfold commitEffect
  split
  next i hfound =>
    split
    · exact (changes_expireRecord i s).trans (changes_answerMissed set ((congrArg _ (expireRecord_ctl i s)).trans hm))
    · split
      next hwaits =>
        obtain ⟨r, hi, hr⟩ := holdsRecord_iff.mp hwaits
        exact changes_armRecord hi fun hst => by simp [awaitsDecision, hst] at hr
      next =>
        split
        · exact .refl
        · exact changes_countAnomaly s
  next => exact changes_answerMissed set hm

theorem changes_abortEffect (set : SetId) (s : State) : Changes s (abortEffect set s) := by
  unfold abortEffect
  split
  next i _ =>
    split
    · exact (changes_freeRecord i s).trans (changes_raise (by decide) _)
    · split
      · exact changes_freeRecord i s
      · exact changes_countAnomaly s
  next => exact .refl

theorem changes_refuseDecisionEffect (set : SetId) (s : State) : Changes s (refuseDecisionEffect set s) := by
  unfold refuseDecisionEffect
  split
  next i _ =>
    split
    · exact (changes_freeRecord i s).trans (changes_raise (by decide) _)
    · exact changes_countAnomaly s
  next => exact .refl

theorem changes_decisionEffect {s : State} (set : SetId) (outcome : DecisionOutcome) (hm : s.ctl.state = .member) :
    Changes s (decisionEffect set outcome s) := by
  unfold decisionEffect
  split
  · exact changes_commitEffect true set hm
  · exact changes_refuseDecisionEffect set s
  · exact changes_refuseDecisionEffect set s

/-! ### The self record (R46 to R48) and the purge (R50) -/

theorem changes_castSelfVote (set : SetId) (count : Nat) (epoch : NetTime) (s : State) :
    Changes s (castSelfVote set count epoch s) :=
  changes_castVote fun i r hi hr => by
    obtain ⟨q, hq, hset, -⟩ := findSelf_some hi
    obtain rfl : q = r := Option.some.inj (hq.symm.trans hr)
    exact ⟨hset, .inl rfl⟩

theorem changes_armSelf (set : SetId) (s : State) : Changes s (armSelf set s) := by
  unfold armSelf
  split
  next i _ =>
    split
    next hvoted =>
      obtain ⟨r, hi, hr⟩ := holdsRecord_iff.mp hvoted
      exact changes_armRecord hi fun hst => by simp [hst] at hr
    next => exact .refl
  next => exact .refl

theorem changes_freeSelf (set : SetId) (s : State) : Changes s (freeSelf set s) := by
  unfold freeSelf
  split
  next i _ => exact (changes_freeRecord i s).trans (changes_raiseIf (by decide) _ _)
  next => exact .refl

theorem freeMatching_ctl (which : SetRecord → Bool) (s : State) : (freeMatching which s).ctl = s.ctl := by
  have hfold (l : List (Fin 4)) (t : State) :
      (l.foldl (fun t i => if holdsRecord which t i then freeRecord i t else t) t).ctl = t.ctl := by
    induction l generalizing t with
    | nil => rfl
    | cons i l ih =>
      rw [List.foldl_cons, ih]
      split
      · exact freeRecord_ctl i t
      · rfl
  simp only [freeMatching, raiseIf]
  split
  · exact hfold _ s
  · exact hfold _ s

theorem changes_purgeProposer {s : State} (p : Station) (hm : s.ctl.state = .member) : Changes s (purgeProposer p s) := by
  refine .tail (changes_freeMatching _ s) (.closed _ (fun h => ?_) fun h => ?_)
  · exact ⟨(List.length_filter_le _ _).trans h.1, h.2.sublist (List.filter_sublist.map _)⟩
  · rw [freeMatching_ctl]; exact hm

end Sys2Proof.Machine


/-! PROOFS. The changes of a proposal: its frames sent, its checks, its decision, its end (Chapter 3). -/

namespace Sys2Proof.Machine

/-! ### The outstanding frame withdrawn (R62) -/

/-- The line after the withdrawal of the proposal's frame. -/
def lineRecalled (s : State) : LineController :=
  if s.line.queue.any isProposalFrame then lineWithout isProposalFrame s else s.line

theorem lineRecalled_congr {s t : State} (hline : t.line = s.line) (hclock : t.clock = s.clock) (hctl : t.ctl = s.ctl) :
    lineRecalled t = lineRecalled s := by
  rw [lineRecalled, lineRecalled, hline, lineWithout_congr hline hclock hctl]

/-- With no frame outstanding a freed entry brings nothing. -/
theorem entryFreed_none {s : State} {p : Proposal} (hp : s.prop.activity = .active p) (ho : p.outstanding = none) :
    entryFreed s = s := by
  simp only [entryFreed, hp, ho]

theorem withdrawOutstanding_eq {s : State} {p : Proposal} (hp : s.prop.activity = .active p) :
    withdrawOutstanding s = (s.setLine (lineRecalled s)).setProp
      { s.prop with activity := .active { p with outstanding := none } } := by
  rw [withdrawOutstanding, mapProposal_active hp, withdrawFrame_eq, State.setProp_line,
    lineWithout_congr (s := s) (by simp) (by simp) (by simp)]
  unfold lineRecalled
  split
  · exact entryFreed_none rfl rfl
  · rfl

/-! ### A proposal turned to a new frame, and a proposal closed -/

/-- An abort, written out: the outstanding frame goes, the ABORT takes its place or waits for it, the self record is freed (R68). -/
theorem abortProposal_eq {s : State} {p : Proposal} (hp : s.prop.activity = .active p) (reason : AbortReason) :
    abortProposal reason s =
      freeSelf p.set ((offer (ownFrame s none (.abort p.set reason)) (s.setLine (lineRecalled s))).setProp
        { s.prop with activity := .active { p with
            phase := .aborting
            abortReason := some reason
            outstanding := some
              { frame := ownFrame s none (.abort p.set reason), queued := queueHasRoom (s.setLine (lineRecalled s)) } } }) := by
  unfold abortProposal
  simp only [hp]
  rw [withdrawOutstanding_eq hp, mapProposal_active rfl, offerProposalFrame_active rfl, offer_eq, offer_eq]
  rfl

/-- A close at once, written out (R66, R67). -/
theorem closeAborted_eq {s : State} {p : Proposal} (hp : s.prop.activity = .active p) (reason : AbortReason) :
    closeAborted reason s =
      freeSelf p.set (closeWith (closingEntry p (some reason)) (s.setLine (lineRecalled s))) := by
  unfold closeAborted
  simp only [hp]
  rw [withdrawOutstanding_eq hp]
  rfl

/-- What a turn to a new frame keeps of a proposal. -/
structure SameSet (p q : Proposal) : Prop where
  set : q.set = p.set
  callSent : q.callSent = p.callSent
  windowEnd : q.windowEnd = p.windowEnd

theorem nothingQueued_recalled {s : State} {p : Proposal} (hp : s.prop.activity = .active p.recalled) : nothingQueued s := by
  intro out ho
  rw [outstandingFrame_active hp] at ho
  obtain ⟨out', -, rfl⟩ := Option.map_eq_some_iff.mp ho
  rfl

/-- The open proposal aborts, from an account of itself that may have changed since its frame was queued (R68). -/
theorem changes_abortFrom {s : State} {p q : Proposal} (hp : s.prop.activity = .active p) (hq : SameSet p q)
    (reason : AbortReason) : Changes s (abortProposal reason (s.setProp { s.prop with activity := .active q })) := by
  rw [abortProposal_eq (p := q) rfl, lineRecalled_congr (s := s) (by simp) (by simp) (by simp)]
  refine .trans (.head (.recalled p hp) (.single ?_)) (changes_freeSelf _ _)
  have hturn := Change.turned (s := (s.setLine (lineRecalled s)).setProp { s.prop with activity := .active p.recalled })
    { q with phase := .aborting, abortReason := some reason } (ownFrame s none (.abort q.set reason))
    (fun _ => nothingQueued_recalled rfl) rfl
    (fun hsound => ⟨rfl, by simp, by simp, by simp, by
      obtain ⟨-, -, -, -, hiff⟩ := hsound
      rw [hq.callSent, hq.windowEnd]
      exact hiff⟩)
    (fun hlog => by
      obtain ⟨-, -, -, -, hset⟩ := hlog
      rw [hq.set]
      exact hset)
    (fun h => h.member_of_active rfl)
  rw [offer_eq] at hturn ⊢
  exact hturn

/-- A new entry of the log keeps the log within its rules (R73). -/
theorem addLog_within {entry : LogEntry} {log : List LogEntry} (hlen : log.length ≤ Config.logLimit)
    (hnodup : (log.map (·.set)).Nodup) :
    (addLog entry log).length ≤ Config.logLimit ∧ ((addLog entry log).map (·.set)).Nodup ∧
      ∀ e ∈ addLog entry log, e ∈ log ∨ e = entry := by
  obtain ⟨hlen', hnodup', hmem⟩ := newest_in_bounded (·.set) entry (by decide) hlen hnodup rfl
  refine ⟨hlen', hnodup', fun e he => ?_⟩
  rcases List.mem_append.mp he with he | he
  · exact .inl (hmem e he)
  · exact .inr (List.mem_singleton.mp he)

theorem logSound_addLog {s t : State} {entry : LogEntry} (hlog : t.prop.log = addLog entry s.prop.log)
    (hseq : t.prop.sequence = s.prop.sequence) (hnum : t.ctl.number = s.ctl.number)
    (hidle : t.prop.activity = .idle) (hown : entry.set.proposer = s.ctl.number) (h : LogSound s) : LogSound t := by
  obtain ⟨hlen, hnodup, howns, hne, -⟩ := logSound_iff.mp h
  obtain ⟨hlen', hnodup', hmem⟩ := addLog_within (entry := entry) hlen hnodup
  rw [logSound_iff, hlog, hseq, hnum, hidle]
  refine ⟨hlen', hnodup', fun e he => ?_, hne, fun p hp => by cases hp⟩
  rcases hmem e he with he | rfl
  · exact howns e he
  · exact hown

/-- A proposal, or a set of this station alone, is closed (R72). -/
theorem changes_closeWith {s : State} {entry : LogEntry} (hout : nothingQueued s)
    (hown : LogSound s → entry.set.proposer = s.ctl.number) (hm : StationSound s → s.ctl.state = .member) :
    Changes s (closeWith entry s) := by
  refine .head (.proposer ?_) (changes_raise (by decide) _)
  exact
    { rest := by simp
      outstanding := .inr ⟨hout, rfl⟩
      activity := fun _ => trivial
      draft := fun _ => trivial
      log := fun h => logSound_addLog rfl rfl rfl rfl (hown h) h
      member := hm }

/-- The open proposal closes at once, from an account of itself that may have changed (R66, R67). -/
theorem changes_closeFrom {s : State} {p q : Proposal} (hp : s.prop.activity = .active p) (hset : q.set = p.set)
    (reason : AbortReason) : Changes s (closeAborted reason (s.setProp { s.prop with activity := .active q })) := by
  rw [closeAborted_eq (p := q) rfl, lineRecalled_congr (s := s) (by simp) (by simp) (by simp)]
  refine .trans ?_ (changes_freeSelf _ _)
  have hclose := changes_closeWith
    (s := (s.setLine (lineRecalled s)).setProp { s.prop with activity := .active p.recalled })
    (entry := closingEntry q (some reason)) (nothingQueued_recalled rfl)
    (fun hlog => by
      obtain ⟨-, -, -, -, hset', -⟩ := hlog
      exact (congrArg _ hset).trans hset')
    (fun h => h.member_of_active rfl)
  exact .head (.recalled p hp) hclose

theorem changes_abortProposal (reason : AbortReason) (s : State) : Changes s (abortProposal reason s) := by
  cases hact : s.prop.activity with
  | active p =>
    have h := changes_abortFrom hact ⟨rfl, rfl, rfl⟩ reason
    rwa [setProp_activity_self hact] at h
  | idle => simp only [abortProposal, hact]; exact .refl
  | drafting d => simp only [abortProposal, hact]; exact .refl

theorem changes_closeAborted (reason : AbortReason) (s : State) : Changes s (closeAborted reason s) := by
  cases hact : s.prop.activity with
  | active p =>
    have h := changes_closeFrom hact rfl reason
    rwa [setProp_activity_self hact] at h
  | idle => simp only [closeAborted, hact]; exact .refl
  | drafting d => simp only [closeAborted, hact]; exact .refl

/-! ### A vote while the proposal gives another account of itself (R47, R63) -/

/-- A proposal with no frame outstanding takes no freed entry, so that freeing a record does nothing to it. -/
theorem freeRecord_setProp {s : State} {x : Proposer} {p : Proposal} (hx : x.activity = .active p)
    (ho : p.outstanding = none) (i : Fin 4) :
    ∃ t, Changes s t ∧ t.prop = s.prop ∧ freeRecord i (s.setProp x) = t.setProp x := by
  cases hi : s.part.table[i] with
  | none => exact ⟨s, .refl, rfl, freeRecord_empty hi⟩
  | some r =>
    have hfreed : freedAt i r (s.setProp x) = (freedAt i r s).setProp x := by
      unfold freedAt
      split <;> rfl
    have hprop : (freedAt i r s).prop = s.prop := by
      unfold freedAt
      split <;> rfl
    rw [freeRecord_eq (s := s.setProp x) hi, withdrawFrame_eq, hfreed, State.setProp_line]
    split
    next hany =>
      refine ⟨(freedAt i r s).setLine (lineWithout (isInquireFor r.set) (freedAt i r s)),
        .head (.freed i r hi) (.single (.withdrawn _ (fun _ => unowned_inquire) hany)), by simpa using hprop, ?_⟩
      rw [lineWithout_congr (s := freedAt i r s) (by simp) (by simp) (by simp)]
      exact entryFreed_none hx ho
    next => exact ⟨freedAt i r s, .single (.freed i r hi), hprop, rfl⟩

/-- The self vote, cast while no frame of the proposal is outstanding. -/
theorem castSelfVote_setProp {s : State} {x : Proposer} {p : Proposal} (hx : x.activity = .active p)
    (ho : p.outstanding = none) (set : SetId) (count : Nat) (epoch : NetTime) :
    ∃ t, Changes s t ∧ t.prop = s.prop ∧ castSelfVote set count epoch (s.setProp x) = t.setProp x := by
  have hvote : castSelfVote set count epoch (s.setProp x) =
      castVote (findSelf set s) set count epoch none (s.setProp x) := rfl
  rw [hvote]
  cases hfound : findSelf set s with
  | none => exact ⟨s, .refl, rfl, rfl⟩
  | some i =>
    obtain ⟨r, hi, rfl, -⟩ := findSelf_some hfound
    have hi' : (s.setProp x).part.table[i] = some r := hi
    have hchecks : voteVerdict (some i) r.set count epoch (s.setProp x) =
        if r.state = .staging then voteChecks s r count epoch else .refused .unknownSet := by
      simp only [voteVerdict, hi']
      rfl
    simp only [castVote, hi', hchecks]
    split
    next hst =>
      split
      next hready =>
        refine ⟨_, .single (.voted i r count epoch none hi hst hready (.inl rfl)), rfl, rfl⟩
      next => exact freeRecord_setProp hx ho i
    next => exact ⟨countAnomaly s, changes_countAnomaly s, rfl, rfl⟩

/-! ### The frames of a proposal sent (R61, R63, R64, R67, R68) -/

/-- The outstanding frame has been sent, and the proposal is turned to a new one (R61 to R63). -/
theorem changes_turn {s : State} {p q : Proposal} (hp : s.prop.activity = .active p)
    (hsent : ProposalSound p → p.outstanding.any (·.queued) = false) (hset : q.set = p.set) (f : Frame) (hsrc : f.src = s.ctl.number)
    (hq : ProposalSound p → ProposalSound { q with outstanding := some { frame := f, queued := queueHasRoom s } }) :
    Changes s (offerProposalFrame f (s.setProp { s.prop with activity := .active q })) := by
  rw [offerProposalFrame_active rfl]
  have hturn := Change.turned (s := s) q f (fun h out ho => by
      rw [outstandingFrame_active hp] at ho
      simpa [ho] using hsent (by simpa only [ActivitySound, hp] using h)) hsrc
    (fun h => hq (by simpa only [ActivitySound, hp] using h))
    (fun h => by
      have hown := (logSound_iff.mp h).2.2.2.2 p hp
      rwa [hset])
    (fun h => h.member_of_active hp)
  refine .single ?_
  rw [offer_eq] at hturn ⊢
  exact hturn

/-- A proposal in STAGING whose last STAGE is on its way, or has been sent, in the account that the checks look at. -/
structure StagedAs (p q : Proposal) : Prop extends SameSet p q where
  reason : q.abortReason = p.abortReason

/-- The proposal that R55 calls sound is in STAGING while a STAGE of it is outstanding. -/
theorem phase_of_outstanding {p : Proposal} {out : Outstanding} {k : OpenPhase} (h : ProposalSound p)
    (ho : p.outstanding = some out) (hk : phaseKind k = some out.frame.body.kind) : p.phase = k := by
  obtain ⟨hkind, -⟩ := h
  rw [ho] at hkind
  exact phaseKind_inj hkind.symm hk

/-- The phase of a proposal whose frame has just been sent (R53, R62). -/
theorem phase_of_sent {p : Proposal} {f : Frame} {k : OpenPhase}
    (h : ProposalSound { p with outstanding := some { frame := f, queued := false } })
    (hk : phaseKind k = some f.body.kind) : p.phase = k :=
  phase_of_outstanding (p := { p with outstanding := some { frame := f, queued := false } })
    (out := { frame := f, queued := false }) h rfl hk

/-- No STAGE is left exactly when every item has been staged (R61). -/
theorem nextStageItems_eq_nil {p : Proposal} : nextStageItems p = [] ↔ p.items.length ≤ p.nextStage := by
  unfold nextStageItems
  split
  next hdrop => exact iff_of_true rfl (List.drop_eq_nil_iff.mp hdrop)
  next d rest hdrop =>
    refine iff_of_false (by simp) fun hle => ?_
    rw [List.drop_eq_nil_of_le hle] at hdrop
    cases hdrop

/-- Checks 3 and 4 before the CALL (R63). -/
theorem changes_leadThenCall {s : State} {p q : Proposal} (hp : s.prop.activity = .active p)
    {out : Outstanding} (ho : p.outstanding = some out) (hsent : out.queued = false) (hkind : out.frame.body.kind = .stage)
    (hq : StagedAs p q) : Changes s (leadThenCall (s.setProp { s.prop with activity := .active q })) := by
  unfold leadThenCall
  simp only [State.setProp_prop]
  split
  · unfold enqueueCall
    simp only [State.setProp_prop]
    rw [mapProposal_active rfl]
    refine changes_turn hp (fun _ => by simp [ho, hsent]) (q := { q with phase := .calling }) hq.set _ rfl fun h => ?_
    have hphase : p.phase = .staging := phase_of_outstanding h ho (by rw [hkind]; rfl)
    obtain ⟨-, hreason, hcall, -, hiff⟩ := h
    refine ⟨rfl, ?_, fun _ => ?_, by simp, ?_⟩
    · simpa [hq.reason, hphase] using hreason
    · exact hq.callSent.trans (hcall (.inl hphase))
    · simpa [hq.callSent, hq.windowEnd] using hiff
  · exact changes_abortFrom hp hq.toSameSet _

/-- The checks when the last STAGE has been sent (R63). -/
theorem changes_preCallChecks {s : State} {p q : Proposal} (hp : s.prop.activity = .active p)
    {out : Outstanding} (ho : p.outstanding = some out) (hsent : out.queued = false) (hkind : out.frame.body.kind = .stage)
    (hq : StagedAs p q) (hnone : q.outstanding = none) :
    Changes s (preCallChecks (s.setProp { s.prop with activity := .active q })) := by
  unfold preCallChecks
  simp only [State.setProp_prop]
  split
  · exact changes_abortFrom hp hq.toSameSet _
  · split
    · obtain ⟨t, ht, hprop, hcast⟩ := castSelfVote_setProp (s := s) (x := { s.prop with activity := .active q }) rfl hnone
        q.set q.selfCount q.epoch
      rw [hcast, mapProposal_active rfl]
      have hpt : t.prop.activity = .active p := by rw [hprop]; exact hp
      have hvoted (v : TargetResult) : StagedAs p { q with selfResult := v } :=
        ⟨⟨hq.set, hq.callSent, hq.windowEnd⟩, hq.reason⟩
      generalize selfVerdict q.set q.selfCount q.epoch _ = verdict
      split
      · have hcall := changes_leadThenCall hpt ho hsent hkind (hvoted (resultOf verdict))
        rw [hprop] at hcall
        exact ht.trans hcall
      · have habort := changes_abortFrom hpt (hvoted (resultOf verdict)).toSameSet .selfRefused
        rw [hprop] at habort
        exact ht.trans habort
    · exact changes_leadThenCall hp ho hsent hkind hq


/-- A STAGE has been sent: the next one, or the checks before the CALL (R61, R63). -/
theorem changes_stageSent {s : State} {p : Proposal} {f : Frame} (queued : Option Outstanding)
    (hp : s.prop.activity = .active { p with outstanding := some { frame := f, queued := false } })
    (hkind : f.body.kind = .stage) :
    Changes s (stageSent (s.setProp { s.prop with activity := .active { p with outstanding := queued } })) := by
  unfold stageSent
  simp only [State.setProp_prop, setActivity]
  split
  next hmore =>
    unfold enqueueStage
    simp only [State.setProp_prop]
    split
    next hnone => exact absurd (nextStageItems_eq_nil.mp hnone) (Nat.not_le.mpr hmore)
    next d rest _ =>
      refine changes_turn hp (fun _ => rfl) (q := { p with
        nextStage := p.nextStage + (nextStageItems { p with outstanding := queued }).length, outstanding := none }) rfl _ rfl
        fun h => ?_
      have hphase : p.phase = .staging := phase_of_sent h (by rw [hkind]; rfl)
      obtain ⟨-, hreason, hcall, hdone, hiff⟩ := h
      exact ⟨by rw [hphase]; rfl, hreason, hcall, hdone, hiff⟩
  next =>
    exact changes_preCallChecks hp rfl rfl hkind (q := { p with
      nextStage := p.nextStage + (nextStageItems { p with outstanding := queued }).length, outstanding := none })
      ⟨⟨rfl, rfl, rfl⟩, rfl⟩ rfl

/-- The CALL has been sent: VOTING (R64). -/
theorem changes_callSent {s : State} {p : Proposal} {f : Frame} (queued : Option Outstanding)
    (hp : s.prop.activity = .active { p with outstanding := some { frame := f, queued := false } })
    (hkind : f.body.kind = .call) :
    Changes s (callSent (s.setProp { s.prop with activity := .active { p with outstanding := queued } })) := by
  rw [callSent, mapProposal_active rfl]
  refine .single (.proposer
    { rest := by simp
      outstanding := .inr ⟨fun out ho => ?_, rfl⟩
      activity := fun h => ?_
      draft := fun _ => trivial
      log := logSound_congr rfl rfl rfl fun q hq => .inl ⟨_, hp, ?_⟩
      member := fun h => h.member_of_active hp })
  · rw [outstandingFrame_active hp] at ho
    cases ho
    rfl
  · have hsound : ProposalSound { p with outstanding := some { frame := f, queued := false } } := by
      simpa only [ActivitySound, hp] using h
    have hphase : p.phase = .calling := phase_of_sent hsound (by rw [hkind]; rfl)
    obtain ⟨-, hreason, -⟩ := hsound
    refine ⟨rfl, ?_, by simp, by simp, by simp⟩
    simpa [hphase] using hreason
  · cases hq
    rfl

/-- A proposal closes when its COMMIT or its ABORT has been sent (R67, R68). -/
theorem changes_closeSent {s : State} {p : Proposal} {f : Frame} (queued : Option Outstanding)
    (hp : s.prop.activity = .active { p with outstanding := some { frame := f, queued := false } })
    (abort : Option AbortReason) :
    Changes s (closeProposal abort (s.setProp { s.prop with activity := .active { p with outstanding := queued } })) := by
  have hclose := changes_closeWith (s := s) (entry := closingEntry p abort) (fun out ho => by
      rw [outstandingFrame_active hp] at ho
      cases ho
      rfl)
    (fun h => ((logSound_iff.mp h).2.2.2.2 _ hp).1) (fun h => h.member_of_active hp)
  exact hclose

/-- The reservation of this station's own CALL (R123). -/
theorem changes_reserveOwn {s : State} (n : Nat) (hm : StationSound s → s.ctl.state = .member) :
    Changes s (reserveOwn n s) :=
  changes_setLine _ rfl (.inl rfl) (fun _ => id) (lineSound_setLine rfl rfl rfl (.inr (.inl rfl))) (fun _ => Iff.rfl)
    (fun _ => .inr hm) .inl

/-- The sent report of a proposal's frame (R61, R64, R67, R68). -/
theorem changes_reportSent {s : State} {p : Proposal} {f : Frame} (queued : Option Outstanding)
    (hp : s.prop.activity = .active { p with outstanding := some { frame := f, queued := false } })
    (hf : isProposalFrame f = true) :
    Changes s (reportSent f (s.setProp { s.prop with activity := .active { p with outstanding := queued } })) := by
  unfold reportSent
  split
  next heq => simp [isProposalFrame, heq, Body.kind] at hf
  next heq => simp [isProposalFrame, heq, Body.kind] at hf
  next heq => exact changes_stageSent queued hp (by rw [heq]; rfl)
  next targets heq =>
    exact (changes_reserveOwn targets.length fun h => h.member_of_active hp).trans
      (changes_callSent (s := reserveOwn targets.length s) queued hp (by rw [heq]; rfl))
  next => exact (changes_closeSent queued hp none).trans (changes_armSelf _ _)
  next => exact changes_closeSent queued hp _
  next heq => simp [isProposalFrame, heq, Body.kind] at hf
  next heq => simp [isProposalFrame, heq, Body.kind] at hf
  next heq => simp [isProposalFrame, heq, Body.kind] at hf
  next heq => simp [isProposalFrame, heq, Body.kind] at hf

end Sys2Proof.Machine


/-! PROOFS. The changes of a frame sent, of SUBMIT and the draft, of the decision and the epoch of a proposal, of the answers from the
log (Chapters 3 and 7). -/

namespace Sys2Proof.Machine

/-! ### A frame of the queue sent (R120) -/

/-- The line when a frame of this station has left it complete, its attempt still named. -/
def frameComplete (s : State) : State := endFrame false (s.setLine { s.line with failures := 0 })

theorem frameComplete_attempt (s : State) : (frameComplete s).line.attempt = s.line.attempt := by
  unfold frameComplete endFrame
  split <;> rfl

/-- MUTED it has no attempt in progress (R122). -/
theorem LineSound.mute_of_attempt {s : State} (h : LineSound s) {a : Attempt} (ha : s.line.attempt = some a) :
    s.line.mute = none := by
  obtain ⟨-, -, -, hquiet⟩ := h
  cases hm : s.line.mute with
  | none => rfl
  | some t => exact absurd (ha.symm.trans (hquiet (by simp [hm]))) nofun

theorem changes_frameComplete {s : State} {a : Attempt} (ha : s.line.attempt = some a) : Changes s (frameComplete s) := by
  refine .trans (changes_setLine { s.line with failures := 0 } rfl (.inl rfl) (fun _ => id) (fun h => ?_)
    (fun _ => Iff.rfl) .inl .inl)
    (changes_endFrame _ _)
  exact lineSound_reset h.1 rfl (h.mute_of_attempt ha)

/-- The queue without the frame sent, in two accounts of the same. -/
theorem completeAttempt_erase (f : Frame) (s : State) :
    (completeAttempt s).setLine { (completeAttempt s).line with queue := (completeAttempt s).line.queue.erase f } =
      (frameComplete s).setLine (lineSent f (frameComplete s)) := by
  unfold completeAttempt frameComplete endFrame
  simp only [State.setLine_line]
  split <;> rfl

/-- With no proposal open a STAGE, a COMMIT or an ABORT sent tells the Proposer Unit nothing. -/
theorem sentReports_inactive {s : State} (h : ∀ p, s.prop.activity ≠ .active p) :
    stageSent s = s ∧ commitSent s = s ∧ abortSent s = s := by
  cases hact : s.prop.activity with
  | active p => exact absurd hact (h p)
  | idle => simp only [stageSent, commitSent, abortSent, hact, and_self]
  | drafting d => simp only [stageSent, commitSent, abortSent, hact, and_self]

/-- A proposal's frame has been sent, and no proposal is open (R120). -/
theorem changes_straySent {s : State} {a : Attempt} (ha : s.line.attempt = some a) (hr : a.reply = false)
    (hf : isProposalFrame a.entry = true) (hp : ∀ p, s.prop.activity ≠ .active p) :
    Changes s (reportSent a.entry (s.setLine (lineSent a.entry s))) := by
  obtain ⟨hstage, hcommit, habort⟩ := sentReports_inactive (s := s.setLine (lineSent a.entry s)) hp
  have hstray : Changes s (s.setLine (lineSent a.entry s)) := .single (.straySent a ha hr hf hp)
  unfold reportSent
  split
  next heq => simp [isProposalFrame, heq, Body.kind] at hf
  next heq => simp [isProposalFrame, heq, Body.kind] at hf
  next => rw [hstage]; exact hstray
  next targets _ =>
    have hcall : callSent (reserveOwn targets.length (s.setLine (lineSent a.entry s))) =
        (reserveOwn targets.length s).setLine (lineSent a.entry (reserveOwn targets.length s)) :=
      mapProposal_inactive (s := reserveOwn targets.length (s.setLine (lineSent a.entry s))) hp _
    rw [hcall]
    exact .tail (changes_reserveOwn _ fun h => h.member_of_attempt ha)
      (.straySent (s := reserveOwn targets.length s) a ha hr hf hp)
  next => rw [hcommit]; exact hstray
  next => rw [habort]; exact hstray
  next heq => simp [isProposalFrame, heq, Body.kind] at hf
  next heq => simp [isProposalFrame, heq, Body.kind] at hf
  next heq => simp [isProposalFrame, heq, Body.kind] at hf
  next heq => simp [isProposalFrame, heq, Body.kind] at hf

/-- A frame of the queue has been sent: the entry goes and its owner is told (R120). -/
theorem changes_entrySent {s : State} {a : Attempt} (ha : s.line.attempt = some a) (hr : a.reply = false) :
    Changes s (reportSent a.entry (s.setLine (lineSent a.entry s))) := by
  cases hf : isProposalFrame a.entry with
  | true =>
    cases hact : s.prop.activity with
    | active p =>
      refine .head (.proposalSent a p ha hr hact hf) ?_
      have hreport := changes_reportSent (s := (s.setLine (lineSent a.entry s)).setProp
        { s.prop with activity := .active { p with outstanding := some { frame := a.entry, queued := false } } })
        p.outstanding rfl hf
      have hself : ((s.setLine (lineSent a.entry s)).setProp
          { s.prop with activity := .active { p with outstanding := some { frame := a.entry, queued := false } } }).setProp
          { s.prop with activity := .active { p with outstanding := p.outstanding } } = s.setLine (lineSent a.entry s) :=
        (State.setProp_setProp _ _ _).trans (setProp_activity_self hact)
      rw [← hself]
      exact hreport
    | idle => exact changes_straySent ha hr hf (by simp [hact])
    | drafting d => exact changes_straySent ha hr hf (by simp [hact])
  | false =>
    have plain (hsync : a.entry.body.kind ≠ .sync) (hpresence : a.entry.body.kind ≠ .presence) :
        Changes s (s.setLine (lineSent a.entry s)) := .single (.sent a ha hr (unmarked_of_kind hsync hpresence hf))
    unfold reportSent
    split
    next heq => exact .single (.syncSent a ha hr (by rw [isSync_iff, heq]; rfl))
    next heq => exact .single (.presenceSent a ha hr (by rw [isKind_iff, heq]; rfl) _)
    next heq => simp [isProposalFrame, heq, Body.kind] at hf
    next heq => simp [isProposalFrame, heq, Body.kind] at hf
    next heq => simp [isProposalFrame, heq, Body.kind] at hf
    next heq => simp [isProposalFrame, heq, Body.kind] at hf
    next heq => exact plain (by simp [heq, Body.kind]) (by simp [heq, Body.kind])
    next heq => exact plain (by simp [heq, Body.kind]) (by simp [heq, Body.kind])
    next heq => exact plain (by simp [heq, Body.kind]) (by simp [heq, Body.kind])
    next heq => exact plain (by simp [heq, Body.kind]) (by simp [heq, Body.kind])

theorem changes_restartPresence (s : State) : Changes s (restartPresence s) :=
  changes_setMemb _ rfl id id fun h => by simp [h]

theorem changes_queueFrameSent {s : State} {a : Attempt} (ha : s.line.attempt = some a) (hr : a.reply = false) :
    Changes s (queueFrameSent a.entry s) := by
  unfold queueFrameSent
  simp only
  rw [completeAttempt_erase]
  exact (changes_frameComplete ha).trans ((changes_entrySent ((frameComplete_attempt s).trans ha) hr).trans
    ((changes_restartPresence _).trans (changes_entryFreed _)))

/-- A REPLY has been sent (R124). -/
theorem changes_replySent {s : State} {a : Attempt} (ha : s.line.attempt = some a) :
    Changes s (restartPresence (completeAttempt s)) := by
  refine .trans ?_ ((changes_endFrame false _).trans (changes_restartPresence _))
  refine changes_setLine { s.line with attempt := none, failures := 0 } rfl (.inr rfl) (fun _ => id) (fun h => ?_)
    (fun _ => Iff.rfl) .inl .inl
  exact lineSound_reset h.1 rfl (h.mute_of_attempt ha)

/-! ### The draft (R54, R57) -/

/-- A draft with no further targets has no more other targets. -/
theorem otherTargetCount_le {own : Station} {items items' : List DraftItem}
    (h : ∀ st, st ≠ own → (∃ x ∈ items', x.target = st) → ∃ x ∈ items, x.target = st) :
    otherTargetCount own items' ≤ otherTargetCount own items :=
  List.countP_mono_left fun st _ hst => by
    obtain ⟨hne, hx⟩ := of_decide_eq_true hst
    exact decide_eq_true ⟨hne, h st hne hx⟩

/-- An item for one more station makes at most one more other target. -/
theorem otherTargetCount_insertDraft (own st : Station) (it : Item) (items : List DraftItem) :
    otherTargetCount own (insertDraft { target := st, item := it } items) ≤ otherTargetCount own items + 1 := by
  rw [← length_otherTargets, ← length_otherTargets, ← List.length_cons (a := st)]
  refine ((List.nodup_dedup _).subperm fun t ht => ?_).length_le
  obtain ⟨hne, x, hx, rfl⟩ := mem_otherTargets.mp ht
  rcases mem_insertDraft.mp hx with rfl | hx
  · exact List.mem_cons_self
  · exact List.mem_cons_of_mem _ (mem_otherTargets.mpr ⟨hne, x, hx, rfl⟩)

/-- An item with the target and channel of another takes its place, and the order and the targets stay. -/
theorem draftSound_replaced {own st : Station} {it : Item} {items : List DraftItem} (hit : validItem it)
    (h : DraftSound own items) :
    DraftSound own (items.map fun x =>
      if x.target = st ∧ x.item.channel = it.channel then { target := st, item := it } else x) := by
  have hsame (x : DraftItem) : (if x.target = st ∧ x.item.channel = it.channel then { target := st, item := it } else x :
      DraftItem).target = x.target ∧ (if x.target = st ∧ x.item.channel = it.channel then { target := st, item := it } else x :
      DraftItem).item.channel = x.item.channel := by
    split
    next h => exact ⟨h.1.symm, h.2.symm⟩
    next => exact ⟨rfl, rfl⟩
  obtain ⟨hord, hvalid, hlen, hother⟩ := h
  refine ⟨List.pairwise_map.mpr (hord.imp fun {x y} hxy => ?_), fun d hd => ?_, by simpa using hlen, ?_⟩
  · simpa only [draftOrder, hsame] using hxy
  · obtain ⟨x, hx, rfl⟩ := List.mem_map.mp hd
    split
    · exact hit
    · exact hvalid x hx
  · refine (otherTargetCount_le fun t _ ht => ?_).trans hother
    obtain ⟨d, hd, rfl⟩ := ht
    obtain ⟨x, hx, rfl⟩ := List.mem_map.mp hd
    exact ⟨x, hx, (hsame x).1.symm⟩

/-- A new item takes its place in the draft, when there is room for it (R54, R57). -/
theorem draftSound_inserted {own st : Station} {it : Item} {items : List DraftItem} (hit : validItem it)
    (hnew : ∀ x ∈ items, ¬ (x.target = st ∧ x.item.channel = it.channel)) (hlen : items.length < 32)
    (hroom : st = own ∨ (∃ x ∈ items, x.target = st) ∨ otherTargetCount own items < 8) (h : DraftSound own items) :
    DraftSound own (insertDraft { target := st, item := it } items) := by
  obtain ⟨hord, hvalid, -, hother⟩ := h
  refine ⟨insertDraft_ordered hord hnew, fun d hd => ?_, ?_, ?_⟩
  · rcases mem_insertDraft.mp hd with rfl | hd
    · exact hit
    · exact hvalid d hd
  · obtain ⟨front, back, hitems, hins⟩ := insertDraft_eq_append { target := st, item := it } items
    rw [hitems] at hlen
    rw [hins]
    simp only [List.length_append, List.length_cons] at hlen ⊢
    exact hlen
  · rcases or_assoc.mpr hroom with hold | hfree
    · refine (otherTargetCount_le fun t hne ht => ?_).trans hother
      obtain ⟨d, hd, rfl⟩ := ht
      rcases mem_insertDraft.mp hd with rfl | hd
      · exact hold.resolve_left hne
      · exact ⟨d, hd, rfl⟩
    · exact (otherTargetCount_insertDraft own st it items).trans hfree

/-- An accepted item keeps the draft within its rules (R57). -/
theorem draftSound_addToDraft {own st : Station} {it : Item} {items : List DraftItem} (hit : itemValid it = true)
    (hroom : draftHasRoom own st it items = true) (h : DraftSound own items) :
    DraftSound own (addToDraft st it items) := by
  by_cases hsame : ∃ x ∈ items, x.target = st ∧ x.item.channel = it.channel
  · rw [addToDraft_replaces hsame]
    exact draftSound_replaced (validItem_of_itemValid hit) h
  · have hother : ∀ x ∈ items, ¬ (x.target = st ∧ x.item.channel = it.channel) := fun x hx hx' => hsame ⟨x, hx, hx'⟩
    obtain ⟨hlen, htarget⟩ := (draftHasRoom_iff.mp hroom).resolve_left hsame
    rw [addToDraft_inserts hother]
    exact draftSound_inserted (validItem_of_itemValid hit) hother hlen htarget h

/-- The draft's items for this station are a record's items (R46, R54). -/
theorem itemsSound_selfItems {own : Station} {items : List DraftItem} (h : DraftSound own items) :
    ItemsSound (selfItems own items) := by
  obtain ⟨hord, hvalid, -, -⟩ := h
  refine ⟨List.pairwise_map.mpr ?_, fun it hit => ?_⟩
  · refine (hord.sublist List.filter_sublist).imp_of_mem fun {x y} hx hy hxy => ?_
    have hsame : x.target = y.target := by
      have hx' : x.target = own := by simpa using (List.mem_filter.mp hx).2
      have hy' : y.target = own := by simpa using (List.mem_filter.mp hy).2
      rw [hx', hy']
    rcases hxy with hlt | ⟨-, hlt⟩
    · exact absurd hlt (by rw [hsame]; exact lt_irrefl _)
    · exact hlt
  · obtain ⟨x, hx, rfl⟩ := List.mem_map.mp hit
    exact hvalid x (List.mem_of_mem_filter hx)

/-- The draft alone changes, while this station drafts or begins to (R56, R57, R70). -/
theorem changes_draft {s : State} {a : Activity} (hfrom : outstandingFrame s = none) (hto : ∀ p, a ≠ .active p)
    (hdraft : DraftingSound s → DraftingSound (setActivity a s)) (hm : StationSound s → s.ctl.state = .member) :
    Changes s (setActivity a s) := by
  have hnone : outstandingFrame (setActivity a s) = none := by
    cases a with
    | active p => exact absurd rfl (hto p)
    | idle => rfl
    | drafting d => rfl
  refine .single (.proposer
    { rest := by simp [setActivity]
      outstanding := .inl (hnone.trans hfrom.symm)
      activity := fun _ => ?_
      draft := hdraft
      log := logSound_congr rfl rfl rfl fun q hq => absurd hq (hto q)
      member := hm })
  cases a with
  | active p => exact absurd rfl (hto p)
  | idle => trivial
  | drafting d => trivial

theorem changes_ownOpenSet (args : List Byte) (s : State) : Changes s (ownOpenSet args s).state := by
  unfold ownOpenSet
  split
  · exact .refl
  next hm =>
    split
    next hidle =>
      refine changes_draft (by simp [outstandingFrame, hidle]) (by simp) (fun _ => ⟨.nil, nofun, Nat.zero_le _, ?_⟩)
        fun _ => not_not.mp hm
      simp [otherTargetCount]
    · exact .refl

theorem changes_ownAddItem (args : List Byte) (s : State) : Changes s (ownAddItem args s).state := by
  unfold ownAddItem
  split
  next d hd =>
    unfold addItemTo
    split
    · exact .refl
    · split
      · exact .refl
      next hvalid =>
        split
        · exact .refl
        next hroom =>
          refine changes_draft (by simp [outstandingFrame, hd]) (by simp) (fun h => ?_) fun h => h.member_of_drafting hd
          rw [DraftingSound, hd] at h
          exact draftSound_addToDraft (own := s.ctl.number) (by simpa using hvalid) (by simpa using hroom) h
  next => exact .refl

/-! ### WITHDRAW (R70) -/

theorem changes_ownWithdraw (s : State) : Changes s (ownWithdraw s).state := by
  unfold ownWithdraw
  split
  next => exact .refl
  next d hd =>
    exact changes_draft (by simp [outstandingFrame, hd]) (by simp) (fun _ => trivial) fun h => h.member_of_drafting hd
  next p hp =>
    split
    · exact changes_abortProposal _ s
    · exact changes_abortProposal _ s
    · exact .refl
    · exact .refl
    · exact .refl


end Sys2Proof.Machine


/-! PROOFS. The changes of SUBMIT, of the decision and the epoch of a proposal, and of the frames that are answered from its record
(Chapter 3). -/

namespace Sys2Proof.Machine

/-! ### SUBMIT (R59, R60) -/

/-- What an accepted SUBMIT has found of the store: room for the draft's items for this station (R58). -/
theorem selfHasRoom_of_submit {s : State} {d : Draft} (h : submitStatus s d = .ok) :
    selfHasRoom s (selfItems s.ctl.number d.items).length = true := by
  unfold submitStatus at h
  simp only at h
  repeat' split at h
  all_goals try cases h
  next hroom _ _ =>
    simp only [Bool.not_eq_true', Bool.not_eq_false, Bool.and_eq_true] at hroom
    exact hroom.2

/-- The sequence counter is never 0 (R59). -/
theorem nextSequence_ne_zero (n : BitVec 8) : nextSequence n ≠ 0 := by
  unfold nextSequence
  split
  · decide
  next h255 => exact fun h0 => h255 (by bv_omega)

/-- The sequence counter advances (R59). -/
theorem changes_sequence {s : State} (hm : StationSound s → s.ctl.state = .member) :
    Changes s (s.setProp { s.prop with sequence := nextSequence s.prop.sequence }) :=
  .single (.proposer
    { rest := by simp
      outstanding := .inl rfl
      activity := id
      draft := id
      log := fun h => by
        obtain ⟨hlen, hnodup, hown, -, hopen⟩ := h
        exact ⟨hlen, hnodup, hown, nextSequence_ne_zero _, hopen⟩
      member := hm })

/-- The self record of a set that SUBMIT accepts (R46). -/
theorem changes_createSelf {s : State} {set : SetId} {d : Draft} (hd : s.prop.activity = .drafting d)
    (hset : set.proposer = s.ctl.number) (hroom : submitStatus s d = .ok) :
    Changes s (if (selfItems s.ctl.number d.items).isEmpty then s else createSelf set (selfItems s.ctl.number d.items) s) := by
  split
  · exact .refl
  next hsome =>
    unfold createSelf
    split
    next i hnew hempty =>
      refine changes_newRecord (emptyPos_some hempty) hnew (fun _ => iff_of_true rfl hset) (fun h => ?_) (fun _ => ?_)
        fun h => h.member_of_drafting hd
      · obtain ⟨-, -, -, hdraft⟩ := h
        rw [DraftingSound, hd] at hdraft
        exact itemsSound_selfItems hdraft
      · have hfits := selfHasRoom_of_submit hroom
        have hne : (selfItems s.ctl.number d.items).length ≠ 0 := by
          simpa [List.isEmpty_iff] using hsome
        simp only [selfHasRoom, hne, decide_false, Bool.false_or, Bool.and_eq_true, decide_eq_true_eq] at hfits
        exact hfits.2
    next => exact .refl

theorem createSelf_setProp (set : SetId) (items : List Item) (s : State) (x : Proposer) :
    createSelf set items (s.setProp x) = (createSelf set items s).setProp x := by
  have hfound : findRecord set (s.setProp x) = findRecord set s := rfl
  have hempty : emptyPos (s.setProp x) = emptyPos s := rfl
  unfold createSelf
  rw [hfound, hempty]
  cases findRecord set s with
  | some i => rfl
  | none => cases emptyPos s <;> rfl

/-! ### A proposal that is not open has no part in what is freed -/

theorem entryFreed_inactive {s : State} (h : ∀ p, s.prop.activity ≠ .active p) : entryFreed s = s := by
  unfold entryFreed
  split
  next p hp => exact absurd hp (h p)
  next => rfl

theorem withdrawFrame_prop {s : State} (h : ∀ p, s.prop.activity ≠ .active p) (which : Frame → Bool) :
    (withdrawFrame which s).prop = s.prop := by
  rw [withdrawFrame_eq]
  split
  · rw [entryFreed_inactive (by simpa using h), State.setLine_prop]
  · rfl

theorem freedAt_prop (i : Fin 4) (r : SetRecord) (s : State) : (freedAt i r s).prop = s.prop := by
  unfold freedAt
  split <;> rfl

theorem freeRecord_prop {s : State} (h : ∀ p, s.prop.activity ≠ .active p) (i : Fin 4) :
    (freeRecord i s).prop = s.prop := by
  cases hi : s.part.table[i] with
  | none => rw [freeRecord_empty hi]
  | some r =>
    rw [freeRecord_eq hi, withdrawFrame_prop (by rw [freedAt_prop]; exact h), freedAt_prop]

theorem castVote_prop {s : State} (h : ∀ p, s.prop.activity ≠ .active p) (found : Option (Fin 4)) (set : SetId)
    (count : Nat) (epoch : NetTime) (windowEnd : Option Instant) :
    (castVote found set count epoch windowEnd s).prop = s.prop := by
  unfold castVote
  split
  · split
    · split
      · split
        · rfl
        · exact freeRecord_prop h _
      · rfl
    · rfl
  · rfl

theorem armSelf_prop {s : State} (h : ∀ p, s.prop.activity ≠ .active p) (set : SetId) :
    (armSelf set s).prop = s.prop := by
  unfold armSelf armRecord
  split
  · split
    · split
      · exact withdrawFrame_prop (s := putRecord _ _ s) h _
      · rfl
    · rfl
  · rfl

theorem armSelf_ctl (set : SetId) (s : State) : (armSelf set s).ctl = s.ctl := by
  unfold armSelf armRecord
  split
  · split
    · split
      · rw [withdrawFrame_frame]; simp [putRecord]
      · rfl
    · rfl
  · rfl

/-- A self-only set is decided within SUBMIT (R60). -/
theorem changes_decideSelfOnly {s : State} {set : SetId} {d : Draft} (hd : s.prop.activity = .drafting d)
    (hset : set.proposer = s.ctl.number) (count : Nat) (epoch : NetTime) :
    Changes s (decideSelfOnly set count epoch s) := by
  have hidle : ∀ p, s.prop.activity ≠ .active p := by simp [hd]
  have close {u : State} (hprop : u.prop = s.prop) (hctl : u.ctl = s.ctl) (v : Verdict) :
      Changes u (closeWith (selfOnlyEntry set epoch v) u) := by
    refine changes_closeWith (fun out ho => ?_) (fun _ => ?_) fun h => h.member_of_drafting (by rw [hprop, hd])
    · rw [outstandingFrame, hprop, hd] at ho
      cases ho
    · rw [hctl]; exact hset
  have hvote : (castSelfVote set count epoch s).prop = s.prop := castVote_prop hidle _ _ _ _ _
  have hctl : (castSelfVote set count epoch s).ctl = s.ctl := castVote_ctl _ _ _ _ _ _
  unfold decideSelfOnly
  simp only
  refine (changes_castSelfVote set count epoch s).trans ?_
  split
  · exact (changes_armSelf set _).trans
      (close ((armSelf_prop (by rw [hvote]; exact hidle) _).trans hvote) ((armSelf_ctl _ _).trans hctl) _)
  · exact close hvote hctl _

/-- A set with items for other stations is opened as a proposal with its first STAGE (R59, R61). -/
theorem changes_openProposal {s : State} {d : Draft} (hd : s.prop.activity = .drafting d)
    (hremote : (remoteItems s.ctl.number d.items).isEmpty = false) :
    Changes s (enqueueStage (setActivity
      (.active (proposalOf s.ctl.number { proposer := s.ctl.number, seq := s.prop.sequence } d))
      (s.setProp { s.prop with sequence := nextSequence s.prop.sequence }))) := by
  unfold enqueueStage setActivity
  simp only [State.setProp_prop, State.setProp_setProp]
  split
  next hnone =>
    have hle := nextStageItems_eq_nil.mp hnone
    exact absurd (List.length_eq_zero_iff.mp (Nat.le_zero.mp hle)) (by simpa [proposalOf] using hremote)
  next x rest _ =>
    rw [offerProposalFrame_active rfl]
    have hturn := Change.turned (s := s) (proposalOf s.ctl.number { proposer := s.ctl.number, seq := s.prop.sequence } d)
      (ownFrame s (some x.target) (.stage { proposer := s.ctl.number, seq := s.prop.sequence } ((x :: rest).map (·.item))))
      (fun _ out ho => by rw [outstandingFrame, hd] at ho; cases ho) rfl
      (fun _ => ⟨rfl, by simp [proposalOf], fun _ => rfl, by simp [proposalOf], by simp [proposalOf]⟩)
      (fun h => ⟨rfl, (logSound_iff.mp h).2.2.2.1⟩) (fun h => h.member_of_drafting hd)
    rw [offer_eq] at hturn ⊢
    exact (Relation.ReflTransGen.single hturn).trans (changes_sequence fun h => h.member_of_active rfl)

/-- An accepted SUBMIT (R59). -/
theorem changes_acceptSubmit {s : State} {d : Draft} (hd : s.prop.activity = .drafting d) (hok : submitStatus s d = .ok) :
    Changes s (acceptSubmit d s) := by
  let set : SetId := { proposer := s.ctl.number, seq := s.prop.sequence }
  obtain ⟨part, hpart⟩ : ∃ part, (if (selfItems s.ctl.number d.items).isEmpty then s
      else createSelf set (selfItems s.ctl.number d.items) s) = s.setPart part := by
    split
    · exact ⟨s.part, rfl⟩
    · exact ⟨_, createSelf_frame _ _ s⟩
  have hself : Changes s (s.setPart part) := hpart ▸ changes_createSelf hd rfl hok
  have hcommute (x : Proposer) : (if (selfItems s.ctl.number d.items).isEmpty then s.setProp x
      else createSelf set (selfItems s.ctl.number d.items) (s.setProp x)) = (s.setPart part).setProp x := by
    rw [createSelf_setProp, ← hpart]
    exact (apply_ite (State.setProp · x) _ _ _).symm
  have hm : StationSound (s.setPart part) → (s.setPart part).ctl.state = .member := fun h => h.member_of_drafting hd
  unfold acceptSubmit
  simp only
  rw [hcommute]
  split
  · refine hself.trans ((changes_sequence (s := s.setPart part) hm).trans ?_)
    exact changes_decideSelfOnly (s := (s.setPart part).setProp
      { s.prop with sequence := nextSequence s.prop.sequence }) hd rfl _ _
  next hremote =>
    exact hself.trans (changes_openProposal (s := s.setPart part) hd (Bool.eq_false_iff.mpr hremote))

theorem changes_ownSubmit (s : State) : Changes s (ownSubmit s).state := by
  unfold ownSubmit
  split
  next d hd =>
    split
    next hok => exact changes_acceptSubmit hd hok
    next => exact .refl
  next => exact .refl

/-! ### The decision at the window end (R66) -/

/-- A proposal's own account changes, its frame and its phase staying. -/
theorem changes_proposal {s : State} {p q : Proposal} (hp : s.prop.activity = .active p) (hset : q.set = p.set)
    (hout : q.outstanding = p.outstanding) (hq : ProposalSound p → ProposalSound q) :
    Changes s (setActivity (.active q) s) :=
  .single (.proposer
    { rest := by simp [setActivity]
      outstanding := .inl (hout.trans (outstandingFrame_active hp).symm)
      activity := fun h => hq (by simpa only [ActivitySound, hp] using h)
      draft := fun _ => trivial
      log := logSound_congr rfl rfl rfl fun q' hq' => .inl ⟨p, hp, by cases hq'; exact hset.symm⟩
      member := fun h => h.member_of_active hp })

theorem changes_decideVote {s : State} {p : Proposal} (hp : s.prop.activity = .active p) (hphase : p.phase = .voting) :
    Changes s (decideVote s) := by
  unfold decideVote
  simp only [hp]
  have hsettle : Changes s (setActivity (.active { p with targets := settleResults p.targets }) s) :=
    changes_proposal hp rfl rfl id
  split
  · rw [mapProposal_active rfl]
    have noFrame (h : ProposalSound p) : p.outstanding = none := by
      obtain ⟨hkind, -⟩ := h
      rw [hphase] at hkind
      exact Option.map_eq_none_iff.mp hkind
    refine changes_turn hp (q := { p with targets := settleResults p.targets, phase := .committing })
      (fun h => by rw [noFrame h]; rfl) rfl _ rfl fun h => ?_
    obtain ⟨-, hreason, -, hcall, hiff⟩ := h
    refine ⟨rfl, ?_, by simp, fun _ => hcall (.inl hphase), hiff⟩
    simpa [hphase] using hreason
  · split
    · exact hsettle.trans (changes_abortProposal _ _)
    · exact hsettle.trans (changes_closeAborted _ _)

theorem changes_windowEnd {s : State} (h : windowDue s = true) : Changes s (decideVote s) := by
  unfold windowDue at h
  split at h
  next p hp => exact changes_decideVote hp (beq_iff_eq.mp (Bool.and_eq_true_iff.mp h).1)
  next => cases h

/-! ### The epoch, and the loss of lock (R67 to R69, R71) -/

theorem changes_meetProposerEpoch (s : State) : Changes s (meetProposerEpoch s) := by
  unfold meetProposerEpoch
  split
  · split
    · split
      · exact changes_abortProposal _ s
      · exact changes_abortProposal _ s
      · exact changes_closeAborted _ s
      · exact changes_closeAborted _ s
      · exact .refl
    · exact .refl
  · exact .refl

theorem changes_proposerLosesLock (s : State) : Changes s (proposerLosesLock s) := by
  unfold proposerLosesLock
  split
  next p hp =>
    split
    · exact changes_abortProposal _ s
    · exact changes_abortProposal _ s
    · exact changes_abortProposal _ s
    · exact changes_proposal hp rfl rfl id
    · exact .refl
  next => exact .refl

/-! ### REPLY, INQUIRE and MISSED (R65, R75, R76) -/

theorem changes_replyEffect (src : Station) (set : SetId) (verdict : Verdict) (s : State) :
    Changes s (replyEffect src set verdict s) := by
  unfold replyEffect
  split
  next k _ =>
    cases hact : s.prop.activity with
    | active p =>
      rw [mapProposal_active hact]
      exact changes_proposal (q := { p with targets := p.targets.modify k fun t => { t with result := resultOf verdict } })
        hact rfl rfl id
    | idle => rw [mapProposal_inactive (by simp [hact])]
    | drafting d => rw [mapProposal_inactive (by simp [hact])]
  next => exact changes_countAnomaly s

theorem changes_inquireEffect {s : State} (src : Station) (set : SetId) (hm : s.ctl.state = .member) :
    Changes s (inquireEffect src set s) := by
  unfold inquireEffect
  split
  · exact changes_countAnomaly s
  · split
    · exact .refl
    · exact changes_offer (unowned_of_kind (.inl rfl)) rfl fun _ => hm

/-- The log marks a result, its sets staying (R76). -/
theorem markMissed_sets (src : Station) (set : SetId) (log : List LogEntry) :
    (markMissed src set log).map (·.set) = log.map (·.set) := by
  rw [markMissed, List.map_map]
  refine List.map_congr_left fun e _ => ?_
  simp only [Function.comp_apply]
  split <;> rfl

theorem changes_missedEffect {s : State} (src : Station) (set : SetId) (hm : s.ctl.state = .member) :
    Changes s (missedEffect src set s) := by
  unfold missedEffect
  split
  · exact changes_countAnomaly s
  · split
    · split
      · refine .trans (b := s.setProp { s.prop with log := markMissed src set s.prop.log }) (.single (.proposer
          { rest := by simp
            outstanding := .inl rfl
            activity := id
            draft := id
            log := fun h => ?_
            member := fun _ => hm })) (changes_raise (by decide) _)
        rw [logSound_iff] at *
        obtain ⟨hlen, hnodup, hown, hrest⟩ := h
        refine ⟨by simpa [markMissed] using hlen, by rw [← markMissed_sets src set] at hnodup; exact hnodup,
          fun e he => ?_, hrest⟩
        obtain ⟨e', he', rfl⟩ := List.mem_map.mp he
        split
        · exact hown e' he'
        · exact hown e' he'
      · exact .refl
      · exact changes_countAnomaly s
    · exact changes_countAnomaly s

end Sys2Proof.Machine


/-! PROOFS. The changes of network time and lock, and of the member table (Chapters 5 and 6). -/

namespace Sys2Proof.Machine

/-! ### What the reactions of the other blocks leave (R85, R91) -/

/-- The station's own units stay: its state, its time, its members, its captures, its port and its commands. -/
structure KeepsStation (s t : State) : Prop where
  ctl : t.ctl = s.ctl
  time : t.time = s.time
  memb : t.memb = s.memb
  capt : t.capt = s.capt
  port : t.port = s.port
  pending : t.pending = s.pending

namespace KeepsStation

theorem refl (s : State) : KeepsStation s s := ⟨rfl, rfl, rfl, rfl, rfl, rfl⟩

theorem trans {s t u : State} (h : KeepsStation s t) (h' : KeepsStation t u) : KeepsStation s u :=
  ⟨h'.ctl.trans h.ctl, h'.time.trans h.time, h'.memb.trans h.memb, h'.capt.trans h.capt, h'.port.trans h.port,
    h'.pending.trans h.pending⟩

theorem raise (n : Notice) (s : State) : KeepsStation s (raise n s) := ⟨rfl, rfl, rfl, rfl, rfl, rfl⟩

theorem raiseIf (b : Bool) (n : Notice) (s : State) : KeepsStation s (raiseIf b n s) := by
  cases b with
  | true => exact raise n s
  | false => exact refl s

theorem setLine_setProp (s : State) (l : LineController) (p : Proposer) : KeepsStation s ((s.setLine l).setProp p) :=
  ⟨rfl, rfl, rfl, rfl, rfl, rfl⟩

theorem setPart (s : State) (x : Participant) : KeepsStation s (s.setPart x) := ⟨rfl, rfl, rfl, rfl, rfl, rfl⟩

theorem setChans (s : State) (x : Vector ChannelRecord 16) : KeepsStation s (s.setChans x) :=
  ⟨rfl, rfl, rfl, rfl, rfl, rfl⟩

theorem foldl {α : Type} {f : State → α → State} (h : ∀ t a, KeepsStation t (f t a)) (l : List α) (s : State) :
    KeepsStation s (l.foldl f s) := by
  induction l generalizing s with
  | nil => exact refl s
  | cons a l ih => exact (h s a).trans (ih _)

theorem withdrawFrame (which : Frame → Bool) (s : State) : KeepsStation s (withdrawFrame which s) := by
  rw [withdrawFrame_frame]; exact setLine_setProp s _ _

theorem freeRecord (i : Fin 4) (s : State) : KeepsStation s (freeRecord i s) := by
  rw [freeRecord_frame]; exact (setPart s _).trans (setLine_setProp _ _ _)

theorem freeSelf (set : SetId) (s : State) : KeepsStation s (freeSelf set s) := by
  unfold Machine.freeSelf
  split
  · exact (freeRecord _ s).trans (raiseIf _ _ _)
  · exact refl s

theorem releaseClaim (c : Fin 16) (set : SetId) (s : State) : KeepsStation s (releaseClaim c set s) := by
  rw [releaseClaim_frame]; exact setPart s _

theorem completeSwap (c : Fin 16) (s : State) : KeepsStation s (completeSwap c s) := by
  unfold Machine.completeSwap
  split
  · split
    · exact (setChans s _).trans ((releaseClaim c _ _).trans (raise _ _))
    · exact refl s
  · exact refl s

theorem applyRecord (i : Fin 4) (s : State) : KeepsStation s (applyRecord i s) := by
  unfold Machine.applyRecord
  split
  · split
    · exact (setChans s _).trans ((setPart _ _).trans ((setPart _ _).trans (raise _ _)))
    · exact refl s
  · exact refl s

theorem expireRecord (i : Fin 4) (s : State) : KeepsStation s (expireRecord i s) := by
  unfold Machine.expireRecord
  split
  · exact (freeRecord i s).trans ((setPart _ _).trans (raise _ _))
  · exact refl s

theorem meetRecord (i : Fin 4) (s : State) : KeepsStation s (meetRecord i s) := by
  unfold Machine.meetRecord
  split
  · exact applyRecord i s
  · split
    · exact expireRecord i s
    · split
      · exact (freeRecord i s).trans (raise _ _)
      · exact refl s

theorem abortProposal (reason : AbortReason) (s : State) : KeepsStation s (abortProposal reason s) := by
  cases hact : s.prop.activity with
  | active p =>
    rw [abortProposal_eq hact, offer_eq]
    exact (setLine_setProp s _ _).trans (freeSelf _ _)
  | idle => simp only [Machine.abortProposal, hact]; exact refl s
  | drafting d => simp only [Machine.abortProposal, hact]; exact refl s

theorem closeAborted (reason : AbortReason) (s : State) : KeepsStation s (closeAborted reason s) := by
  cases hact : s.prop.activity with
  | active p =>
    rw [closeAborted_eq hact]
    exact (setLine_setProp s _ _).trans ((raise _ _).trans (freeSelf _ _))
  | idle => simp only [Machine.closeAborted, hact]; exact refl s
  | drafting d => simp only [Machine.closeAborted, hact]; exact refl s

theorem meetProposerEpoch (s : State) : KeepsStation s (meetProposerEpoch s) := by
  unfold Machine.meetProposerEpoch
  split
  · split
    · split
      · exact abortProposal _ s
      · exact abortProposal _ s
      · exact closeAborted _ s
      · exact closeAborted _ s
      · exact refl s
    · exact refl s
  · exact refl s

theorem meetStep (s : State) : KeepsStation s (meetStep s) := by
  have hcount : KeepsStation s (if positions.countP (expiryDue s) ≤ 1 then s else countChoice s) := by
    split
    · exact refl s
    · exact ⟨rfl, rfl, rfl, rfl, rfl, rfl⟩
  exact hcount.trans ((meetProposerEpoch _).trans ((foldl (fun t i => meetRecord i t) _ _).trans
    (foldl (fun t c => completeSwap c t) _ _)))

end KeepsStation

theorem changes_meetStep (s : State) : Changes s (meetStep s) := by
  have hcount : Changes s (if positions.countP (expiryDue s) ≤ 1 then s else countChoice s) := by
    split
    · exact .refl
    · exact changes_countChoice s
  exact hcount.trans ((changes_meetProposerEpoch _).trans ((changes_foldl (fun t i => changes_meetRecord i t) _ _).trans
    (changes_foldl (fun t c => changes_completeSwap c t) _ _)))

/-! ### A withdrawn SYNC, and the lock (R87, R88, R90, R91) -/

/-- The Time Unit changes, its lock state with it, and an outstanding SYNC is withdrawn. -/
theorem changes_withdrawSync {s : State} (x : TimeUnit) (hown : x.ownSync = s.time.ownSync)
    (htime : OwnersSound s → TimeSound s → TimeSound (s.setTime x)) : Changes s (withdrawSync (s.setTime x)) := by
  unfold withdrawSync
  rw [State.setTime_time, hown]
  cases hs : s.time.ownSync with
  | false =>
    rw [if_neg Bool.false_ne_true]
    exact .single (.relocked x hown (by simp [hs]) htime)
  | true =>
    have htime' (ho : OwnersSound s) (ht : TimeSound s) : TimeSound (s.setTime { x with ownSync := false }) :=
      timeSound_ownSync false (htime ho ht)
    rw [if_pos rfl, State.setTime_setTime, withdrawFrame_eq, State.setTime_line]
    split
    next hany =>
      rw [lineWithout_congr (s := s) (by simp) (by simp) (by simp)]
      exact .head (.syncWithdrawn { x with ownSync := false } hs rfl hany htime') (changes_entryFreed _)
    next hany => exact .single (.strayWithdrawn { x with ownSync := false } hs (Bool.eq_false_iff.mpr hany) rfl)

theorem apart_setLock (l : LockState) : Apart fun t => t.setTime { t.time with lock := l } where
  clock _ := rfl
  ctl _ := rfl
  prop _ := rfl
  line _ := rfl
  setLine _ _ := rfl
  setProp _ _ := rfl

theorem withdrawSync_raise (n : Notice) (s : State) : withdrawSync (raise n s) = raise n (withdrawSync s) := by
  unfold withdrawSync
  change (if s.time.ownSync then withdrawFrame isSync (raise n (s.setTime { s.time with ownSync := false })) else raise n s) = _
  rw [(apart_raise n).withdrawFrame]
  exact (apply_ite (raise n) _ _ _).symm

theorem withdrawSync_setLock (l : LockState) (s : State) :
    withdrawSync (s.setTime { s.time with lock := l }) =
      (withdrawSync s).setTime { (withdrawSync s).time with lock := l } := by
  have hcomm := (apart_setLock l).withdrawFrame isSync (s.setTime { s.time with ownSync := false })
  unfold withdrawSync
  simp only [State.setTime_time, State.setTime_setTime] at hcomm ⊢
  rw [hcomm]
  exact (apply_ite (fun t : State => t.setTime { t.time with lock := l }) _ _ _).symm

theorem KeepsStation.entryFreed (s : State) : KeepsStation s (entryFreed s) := by
  rw [entryFreed_frame]; exact setLine_setProp s _ _

/-- A withdrawn SYNC leaves the Time Unit but its mark. -/
theorem withdrawSync_time (s : State) : ∃ own, (withdrawSync s).time = { s.time with ownSync := own } := by
  unfold withdrawSync
  split
  · exact ⟨false, (KeepsStation.withdrawFrame _ _).time⟩
  · exact ⟨s.time.ownSync, rfl⟩

theorem withdrawSync_ctl (s : State) : (withdrawSync s).ctl = s.ctl := by
  unfold withdrawSync
  split
  · exact (KeepsStation.withdrawFrame _ _).ctl
  · rfl

theorem setLock_same {l : LockState} {s : State} (h : s.time.lock = l) : setLock l s = s := by
  rw [setLock, if_pos h]

/-- LOCKED is reached from another state: a JOINING station becomes MEMBER (R90, R91, R159). -/
theorem changes_becomeLocked {s : State} {x : TimeUnit} (hst : s.ctl.state = .joining ∨ s.ctl.state = .member)
    (hown : x.ownSync = s.time.ownSync) (hlock : s.time.lock ≠ .locked) (hl : x.lock = .locked)
    (hself : TimeSound s → x.selfSource = none) (hsup : TimeSound s → x.supervision ≠ none)
    (hsync : TimeSound s → x.syncTimer.isSome = true) (hrun : x.running = s.time.running) (hslew : x.slew = s.time.slew) :
    Changes s (lockedReactions (raise .lock (s.setTime x))) := by
  have sound (u : State) (htime : u.time = x) (hm : u.ctl.state = .member) (h : TimeSound s) : TimeSound u := by
    have hnot : s.ctl.state ≠ .config := by rcases hst with h | h <;> simp [h]
    have hrunning : s.time.running = true := h.1.mpr hnot
    obtain ⟨-, -, -, -, -, -, hs⟩ := id h
    refine ⟨?_, ?_, ?_, ?_, ?_, ?_, ?_⟩
    · simp [htime, hrun, hrunning, hm]
    · simp [htime, hl, hsup h]
    · simp [htime, hl, hself h]
    · simp [htime, hsync h, hm]
    · simp [hm]
    · simp [hm]
    · rw [htime, hslew]; exact hs
  unfold lockedReactions
  split
  next hj =>
    refine .trans (b := raise .lock (((s.setTime x).setCtl { s.ctl with state := .member }).setMemb
        { s.memb with interval := some 0, presence := some 0, announced := false })) ?_
      (.single (.presenceOffered fun _ => rfl))
    exact .head (.joined x hj hown fun _ => sound _ rfl rfl) (changes_raise (by decide) _)
  next hj =>
    have hm : s.ctl.state = .member := hst.resolve_left hj
    exact .head (.relocked x hown (fun _ => hlock) fun _ => sound _ rfl hm) (changes_raise (by decide) _)

/-- A SYNC has restarted the timers, and the lock state follows it (R86, R87, R91). -/
theorem changes_syncTaken {s : State} {slewed : Bool} (hst : s.ctl.state = .joining ∨ s.ctl.state = .member) :
    Changes s (setLock (lockAfterSync s.time.lock slewed) (withdrawSync (restartSyncTimers s))) := by
  have hnot : s.ctl.state ≠ .config := by rcases hst with h | h <;> simp [h]
  have restarted (l : LockState) (hl : l ≠ .unlocked) (hjoin : s.ctl.state = .joining → TimeSound s → l = .acquiring) :
      Changes s (withdrawSync (s.setTime
        { s.time with supervision := some 0, syncTimer := some 0, selfSource := none, lock := l })) := by
    refine changes_withdrawSync _ rfl fun _ h => ?_
    obtain ⟨hrun, -, -, -, -, -, hslew⟩ := id h
    refine ⟨hrun, ?_, ?_, ?_, fun hj => .inr (hjoin hj h), fun hc => absurd hc hnot, hslew⟩
    · simp [hl]
    · simp [hl]
    · simpa using hnot
  have hrestart : restartSyncTimers s = s.setTime
      { s.time with supervision := some 0, syncTimer := some 0, selfSource := none, lock := s.time.lock } := rfl
  obtain ⟨own, htime⟩ := withdrawSync_time (restartSyncTimers s)
  have hlock : (withdrawSync (restartSyncTimers s)).time.lock = s.time.lock := by rw [htime]; rfl
  have stays (hl : s.time.lock ≠ .unlocked) (hsame : lockAfterSync s.time.lock slewed = s.time.lock) :
      Changes s (setLock (lockAfterSync s.time.lock slewed) (withdrawSync (restartSyncTimers s))) := by
    rw [hsame, setLock_same hlock, hrestart]
    exact restarted _ hl fun hj h => ((h.2.2.2.2.1 hj).resolve_left hl)
  have locks (hl : s.time.lock ≠ .unlocked) (hne : s.time.lock ≠ .locked) (hnew : lockAfterSync s.time.lock slewed = .locked) :
      Changes s (setLock (lockAfterSync s.time.lock slewed) (withdrawSync (restartSyncTimers s))) := by
    have hfirst : Changes s (withdrawSync (restartSyncTimers s)) := by
      rw [hrestart]
      exact restarted _ hl fun hj h => ((h.2.2.2.2.1 hj).resolve_left hl)
    refine hfirst.trans ?_
    rw [hnew]
    unfold setLock
    rw [if_neg (by rw [hlock]; exact hne)]
    simp only [if_neg (show ¬ (withdrawSync (restartSyncTimers s)).time.lock = .locked by rw [hlock]; exact hne)]
    refine changes_becomeLocked (by rw [withdrawSync_ctl]; exact hst) rfl (by rw [hlock]; exact hne) rfl ?_ ?_ ?_ rfl rfl
    all_goals intro _; rw [htime]; simp [restartSyncTimers]
  cases hl : s.time.lock with
  | locked => exact hl ▸ stays (by simp [hl]) (by simp [hl, lockAfterSync])
  | holdover => exact hl ▸ locks (by simp [hl]) (by simp [hl]) (by simp [hl, lockAfterSync])
  | acquiring =>
    cases slewed with
    | true => exact hl ▸ locks (by simp [hl]) (by simp [hl]) (by simp [hl, lockAfterSync])
    | false => exact hl ▸ stays (by simp [hl]) (by simp [hl, lockAfterSync])
  | unlocked =>
    rw [show lockAfterSync .unlocked slewed = .acquiring from rfl]
    unfold setLock
    rw [if_neg (by rw [hlock, hl]; decide)]
    simp only [if_neg (show ¬ (withdrawSync (restartSyncTimers s)).time.lock = .locked by rw [hlock, hl]; decide)]
    rw [← withdrawSync_setLock]
    exact (restarted .acquiring (by decide) fun _ _ => rfl).trans (changes_raise (by decide) _)

/-- A new slew is within R84's limits. -/
theorem slewSound_newSlew {o : Int} (h : withinSlew o = true) {sl : Slew} (hsl : newSlew o = some sl) : SlewSound sl := by
  unfold newSlew at hsl
  split at hsl
  next => cases hsl
  next hne =>
    cases hsl
    simp only [withinSlew, Bool.and_eq_true, decide_eq_true_eq] at h
    exact ⟨hne, rfl, le_rfl, by simp only [Config.slewLimit] at h ⊢; omega⟩

/-- The correction of network time, with all that a step meets (R84, R85). -/
theorem changes_correctTime {s : State} (o : Int) (hst : s.ctl.state ≠ .config) : Changes s (correctTime o s) := by
  unfold correctTime
  split
  next hin =>
    refine changes_setTime _ rfl rfl fun h => ?_
    obtain ⟨hrun, hsup, hself, hsync, hjoin, hconf, -⟩ := h
    exact ⟨hrun, hsup, hself, hsync, hjoin, hconf, fun sl hsl => slewSound_newSlew hin hsl⟩
  next =>
    have hmoved : Changes s (s.setTime { s.time with now := moveTime s.time.now o, slew := none, lastStep := some o }) := by
      refine changes_setTime _ rfl rfl fun h => ?_
      obtain ⟨hrun, hsup, hself, hsync, hjoin, -, -⟩ := h
      exact ⟨hrun, hsup, hself, hsync, hjoin, fun hc => absurd hc hst, fun _ hsl => by cases hsl⟩
    exact hmoved.trans ((changes_raise (by decide) _).trans (changes_meetStep _))

theorem correctTime_lock (o : Int) (s : State) : (correctTime o s).time.lock = s.time.lock := by
  unfold correctTime
  split
  · rfl
  · rw [(KeepsStation.meetStep _).time]; simp [raise]

theorem correctTime_ctl (o : Int) (s : State) : (correctTime o s).ctl = s.ctl := by
  unfold correctTime
  split
  · rfl
  · rw [(KeepsStation.meetStep _).ctl]; simp [raise]

theorem changes_takeSync {s : State} (carried sample : NetTime)
    (hst : s.ctl.state = .joining ∨ s.ctl.state = .member) : Changes s (takeSync carried sample s) := by
  unfold takeSync
  simp only
  rw [← correctTime_lock (syncOffset s carried sample) s]
  exact (changes_correctTime _ (by rcases hst with h | h <;> simp [h])).trans
    (changes_syncTaken (by rw [correctTime_ctl]; exact hst))

end Sys2Proof.Machine


/-! PROOFS. The changes of the timers, the microseconds, the member table and the captures (Chapters 5, 6 and 9). -/

namespace Sys2Proof.Machine

/-! ### Supervision and self-source (R88, R90) -/

theorem changes_loseLock {s : State} (hlock : s.time.lock = .holdover ∨ s.time.lock = .acquiring) :
    Changes s (setLock .unlocked s) := by
  have hne : s.time.lock ≠ .unlocked ∧ s.time.lock ≠ .locked := by rcases hlock with h | h <;> simp [h]
  unfold setLock
  rw [if_neg hne.1]
  simp only [if_neg hne.2]
  unfold lockLostReactions
  refine .trans (b := timeLosesLock (raise .lock (s.setTime { s.time with lock := .unlocked }))) ?_
    (.head .outputsLost ((changes_freeMatching _ _).trans (changes_proposerLosesLock _)))
  refine .trans (b := s.setTime { s.time with
      lock := .unlocked, supervision := none, selfSource := if canSelfSource s then some 0 else none })
    (.single (.relocked _ rfl (fun _ => hne.2) fun _ h => ?_))
    (changes_raise (n := .lock) (by decide) (s.setTime { s.time with
      lock := .unlocked, supervision := none, selfSource := if canSelfSource s then some 0 else none }))
  obtain ⟨hrun, -, -, hsync, hjoin, hconf, hslew⟩ := h
  refine ⟨hrun, by simp, ?_, hsync, fun _ => .inl rfl, fun hc => ⟨rfl, (hconf hc).2⟩, hslew⟩
  simp [canSelfSource]

theorem changes_holdover {s : State} (hlock : s.time.lock = .locked) : Changes s (setLock .holdover s) := by
  unfold setLock
  rw [if_neg (by simp [hlock])]
  simp only [hlock, if_true]
  rw [withdrawSync_raise]
  refine .trans (changes_withdrawSync { s.time with lock := .holdover } rfl fun _ h => ?_) (changes_raise (n := .lock) (by decide) _)
  obtain ⟨hrun, hsup, hself, hsync, hjoin, hconf, hslew⟩ := h
  refine ⟨hrun, ?_, ?_, hsync, fun hj => ?_, fun hc => ?_, hslew⟩
  · simpa [hlock] using hsup
  · simpa [hlock] using hself
  · have := hjoin hj; simp [hlock] at this
  · have := (hconf hc).1; simp [hlock] at this

theorem changes_supervision {s : State} {l : LockState} (h : supervisionNext s = some l) : Changes s (setLock l s) := by
  unfold supervisionNext at h
  split at h
  next hl _ =>
    split at h
    · cases h; exact changes_holdover hl
    · cases h
  next hl _ =>
    split at h
    · cases h; exact changes_loseLock (.inl hl)
    · cases h
  next hl _ =>
    split at h
    · cases h; exact changes_loseLock (.inr hl)
    · cases h
  next => cases h
  next => cases h

theorem changes_selfSource {s : State} (h : selfSourceDue s = true) :
    Changes s (setLock .locked (restartSyncTimers s)) := by
  obtain ⟨⟨hst, hlock⟩, -⟩ : ((s.ctl.state = .joining ∨ s.ctl.state = .member) ∧ s.time.lock = .unlocked) ∧ _ := by
    simpa [selfSourceDue, canSelfSource] using h
  have hne : (restartSyncTimers s).time.lock ≠ .locked := by simp [restartSyncTimers, hlock]
  unfold setLock
  rw [if_neg hne]
  simp only [if_neg hne]
  exact changes_becomeLocked (x := { (restartSyncTimers s).time with lock := .locked }) hst rfl (by simp [hlock]) rfl
    (fun _ => rfl) (fun _ => nofun) (fun _ => rfl) rfl rfl

theorem changes_syncTimer {s : State} (h : syncTimerDue s = true) :
    Changes s
      (if s.ctl.state = .member ∧ s.time.lock = .locked ∧ s.time.ownSync = false then
        offerSync (s.setTime { s.time with syncTimer := some 0 })
       else s.setTime { s.time with syncTimer := some 0 }) := by
  have hrestart : Changes s (s.setTime { s.time with syncTimer := some 0 }) := by
    refine changes_setTime _ rfl rfl fun ht => ?_
    obtain ⟨hrun, hsup, hself, hsync, hjoin, hconf, hslew⟩ := ht
    refine ⟨hrun, hsup, hself, ?_, hjoin, hconf, hslew⟩
    have hsome : s.time.syncTimer.isSome = true := by
      unfold syncTimerDue at h
      split at h
      next hs => simp [hs]
      next => cases h
    exact iff_of_true rfl (hsync.mp hsome)
  split
  next hcond => exact hrestart.tail (.syncOffered hcond.1 hcond.2.1 hcond.2.2)
  next => exact hrestart

/-! ### One microsecond (R79, R81, R84) -/

theorem runTimer_isSome (limit adv : Nat) (t : Option Nat) : (runTimer limit adv t).isSome = t.isSome := by
  simp [runTimer]

theorem runTimer_none {limit adv : Nat} {t : Option Nat} (h : t = none) : runTimer limit adv t = none := by
  simp [runTimer, h]

theorem changes_runMembership (adv : Nat) (s : State) : Changes s (s.setMemb { s.memb with
    interval := runTimer Config.memberInterval adv s.memb.interval
    presence := runTimer Config.presencePeriod adv s.memb.presence }) :=
  changes_setMemb _ rfl id (fun h => runTimer_none h) fun h => runTimer_none h

theorem changes_runMute (adv : Nat) (s : State) :
    Changes s (s.setLine { s.line with mute := runTimer Config.mutePeriod adv s.line.mute }) := by
  refine changes_setLine _ rfl (.inl rfl) (fun _ => id) (fun h => ?_) (fun _ => Iff.rfl) .inl
    fun h => .inl (runTimer_none h)
  obtain ⟨hcount, hle, hiff, hquiet⟩ := h
  exact ⟨hcount, hle, by simpa [runTimer_isSome] using hiff, by simpa [runTimer_isSome] using hquiet⟩

theorem changes_microTaken (s : State) : Changes s (s.setClock { s.clock with microDue := false }) :=
  changes_setClock _ fun ⟨hrun, hsup, hself, hsync, hjoin, hconf, hs⟩ =>
    ⟨hrun, hsup, hself, hsync, hjoin, fun hc => ⟨(hconf hc).1, (hconf hc).2.1, rfl⟩, hs⟩

theorem changes_passMicro {s : State} {adv : Nat} {slew : Option Slew} (hdue : s.clock.microDue = true)
    (hslew : (∀ sl, s.time.slew = some sl → SlewSound sl) → ∀ sl, slew = some sl → SlewSound sl) :
    Changes s (passMicro adv slew s) := by
  refine .trans (changes_setTime { s.time with
      now := s.time.now + BitVec.ofNat 48 adv
      slew := slew
      supervision := s.time.supervision.map (· + adv)
      syncTimer := runTimer Config.syncPeriod adv s.time.syncTimer
      selfSource := runTimer Config.selfSourceAfter adv s.time.selfSource } rfl rfl fun h => ?_)
    ((changes_runMembership adv _).trans ((changes_runMute adv _).trans (changes_microTaken _)))
  obtain ⟨hrun, hsup, hself, hsync, hjoin, hconf, hs⟩ := h
  refine ⟨hrun, ?_, ?_, ?_, hjoin, fun hc => ?_, hslew hs⟩
  · simpa using hsup
  · simpa [runTimer_isSome] using hself
  · simpa [runTimer_isSome] using hsync
  · have := (hconf hc).2.2
    simp [hdue] at this

theorem changes_plainMicro {s : State} (hdue : s.clock.microDue = true) : Changes s (plainMicro s) := by
  refine changes_passMicro hdue fun h sl hsl => ?_
  obtain ⟨sl', hs, rfl⟩ := Option.map_eq_some_iff.mp hsl
  exact h sl' hs

/-- A slew after a piece has one piece less, and is over after the last (R84). -/
theorem slewSound_afterPiece {sl sl' : Slew} (h : SlewSound sl) (hs : afterPiece sl = some sl') : SlewSound sl' := by
  unfold afterPiece at hs
  simp only at hs
  split at hs
  next => cases hs
  next hne =>
    cases hs
    obtain ⟨hrem, hsign, hle, hlimit⟩ := h
    rcases lt_trichotomy sl.offset 0 with ho | ho | ho
    · have hr : sl.remaining < 0 := Int.sign_eq_neg_one_iff_neg.mp (hsign.trans (Int.sign_eq_neg_one_of_neg ho))
      have hone : sl.offset.sign = -1 := Int.sign_eq_neg_one_of_neg ho
      refine ⟨hne, ?_, ?_, hlimit⟩
      · change (sl.remaining - sl.offset.sign).sign = sl.offset.sign
        rw [hone] at hne ⊢
        exact Int.sign_eq_neg_one_of_neg (by omega)
      · simp only [hone]
        omega
    · rw [ho, Int.sign_zero, Int.sign_eq_zero_iff_zero] at hsign
      exact absurd hsign hrem
    · have hr : 0 < sl.remaining := Int.sign_eq_one_iff_pos.mp (hsign.trans (Int.sign_eq_one_of_pos ho))
      have hone : sl.offset.sign = 1 := Int.sign_eq_one_of_pos ho
      refine ⟨hne, ?_, ?_, hlimit⟩
      · change (sl.remaining - sl.offset.sign).sign = sl.offset.sign
        rw [hone] at hne ⊢
        exact Int.sign_eq_one_of_pos (by omega)
      · simp only [hone]
        omega

theorem changes_slewPiece {s : State} {sl : Slew} (h : slewPieceDue s = some sl) : Changes s (pieceMicro sl s) := by
  unfold slewPieceDue at h
  split at h
  next hdue =>
    refine changes_passMicro hdue fun hs sl' hsl' => slewSound_afterPiece (hs sl ?_) hsl'
    exact (Option.filter_eq_some_iff.mp h).1
  next => cases h

theorem changes_tick (s : State) : Changes s (tick s) := by
  refine changes_setClock _ fun h => ?_
  obtain ⟨hrun, hsup, hself, hsync, hjoin, hconf, hs⟩ := h
  refine ⟨hrun, hsup, hself, hsync, hjoin, fun hc => ⟨(hconf hc).1, (hconf hc).2.1, ?_⟩, hs⟩
  have hstopped : s.time.running = false := by
    by_contra hne
    exact hrun.mp (Bool.of_not_eq_false hne) hc
  simp [hstopped]

/-! ### The member table (R102 to R106) -/

/-- A sound entry of another station is written. -/
theorem changes_putMember {s : State} {st : Station} {e : MemberEntry} (hother : st ≠ s.ctl.number)
    (he : EntrySound s.memb.entries[st] → EntrySound e) : Changes s (putMember st e s) := by
  refine changes_setMemb _ rfl (fun h q => ?_) id id
  have hq := h q
  by_cases hsame : q = st
  · subst hsame
    rw [if_neg hother] at hq
    simpa [hother] using he hq
  · have hne : st.val ≠ q.val := fun hv => hsame (Fin.ext hv.symm)
    simpa [hne] using hq

/-- A frame heard marks its sender PRESENT (R102). -/
theorem changes_hear {s : State} {src : Station} (hother : src ≠ s.ctl.number) : Changes s (hear src s) := by
  refine .trans (changes_putMember hother fun h => ?_) (changes_raiseIf (by decide) _ _)
  obtain ⟨hrecords, hslots, -⟩ := h
  exact ⟨hrecords, hslots, Nat.zero_lt_succ _, rfl⟩

theorem hear_ctl (src : Station) (s : State) : (hear src s).ctl = s.ctl := by
  rw [hear_frame]; rfl

theorem hear_entry (src : Station) (s : State) : (hear src s).memb.entries[src].state = .present := by
  simp only [hear, raiseIf]
  split <;> simp [putMember, raise]

theorem changes_reportPresence {s : State} {src : Station} (lock : LockState) {records slots : Nat}
    (hother : src ≠ s.ctl.number) (hpresent : s.memb.entries[src].state = .present) (hrecords : records ≤ 4)
    (hslots : slots ≤ 32) : Changes s (reportPresence src lock records slots s) := by
  refine changes_putMember hother fun h => ?_
  obtain ⟨-, -, hstate⟩ := h
  rw [hpresent] at hstate
  refine ⟨fun n hn => ?_, fun n hn => ?_, ?_⟩
  · cases hn; exact hrecords
  · cases hn; exact hslots
  · simpa only [hpresent] using hstate

theorem changes_reportSlots {s : State} {src : Station} {slots : Nat} (hother : src ≠ s.ctl.number)
    (hpresent : s.memb.entries[src].state = .present) (hslots : slots ≤ 32) : Changes s (reportSlots src slots s) := by
  refine changes_putMember hother fun h => ?_
  obtain ⟨hrecords, -, hstate⟩ := h
  rw [hpresent] at hstate
  refine ⟨hrecords, fun n hn => ?_, ?_⟩
  · cases hn; exact hslots
  · simpa only [hpresent] using hstate

theorem entrySound_endInterval {e : MemberEntry} (h : EntrySound e) : EntrySound (endInterval e) := by
  obtain ⟨hrecords, hslots, hstate⟩ := h
  cases hs : e.state with
  | present =>
    simp only [hs] at hstate
    obtain ⟨hmissed, hheard⟩ := hstate
    unfold endInterval
    simp only [hs]
    split
    next => exact ⟨hrecords, hslots, hmissed, hheard⟩
    next hunheard =>
      split
      next => exact ⟨nofun, nofun, rfl, hheard, rfl, rfl, rfl⟩
      next hnot =>
        refine ⟨hrecords, hslots, ?_, hheard⟩
        simp only [fallsSilent, hs, hunheard] at hnot
        simpa using hnot
  | absent =>
    simp only [hs] at hstate
    unfold endInterval
    simp only [hs]
    exact ⟨hrecords, hslots, hstate⟩
  | silent =>
    simp only [hs] at hstate
    unfold endInterval
    simp only [hs]
    exact ⟨hrecords, hslots, hstate⟩
  | self =>
    simp only [hs] at hstate

theorem changes_intervalEnd {s : State} (h : intervalDue s = true) :
    Changes s (raiseIf (s.memb.entries.any fallsSilent) .member
      (s.setMemb { s.memb with entries := s.memb.entries.map endInterval, interval := some 0 })) := by
  refine .trans (changes_setMemb { s.memb with entries := s.memb.entries.map endInterval, interval := some 0 } rfl
    (fun hm st => ?_) (fun hnone => ?_) id) (changes_raiseIf (by decide) _ _)
  · have hst := hm st
    by_cases hown : st = s.ctl.number
    · rw [if_pos hown] at hst
      rw [Fin.getElem_fin] at hst
      simp [← hown, hst, endInterval]
    · rw [if_neg hown] at hst
      simpa [hown] using entrySound_endInterval hst
  · simp [intervalDue, hnone] at h

theorem changes_presenceCheck {s : State} (h : presenceDue s = true) :
    Changes s (offerPresence (s.setMemb { s.memb with presence := some 0 })) := by
  have hrunning : s.memb.presence ≠ none := fun hnone => by simp [presenceDue, hnone] at h
  refine .tail (changes_setMemb { s.memb with presence := some 0 } rfl id id fun hnone => absurd hnone hrunning)
    (.presenceOffered fun hs => ?_)
  by_contra hne
  obtain ⟨-, -, -, -, -, -, -, -, -, -, -, hper⟩ := hs.1 hne
  cases hper

/-! ### Captures (R144 to R149) -/

theorem changes_setPin (input : Fin 8) (level : Level) (s : State) : Changes s (setPin input level s) :=
  changes_setCapt _ id

theorem changes_offerCapture {s : State} (input : Fin 8) (e : Edge) (hst : s.ctl.state ≠ .config) :
    Changes s (offerCapture input e s) := by
  unfold offerCapture
  simp only
  split
  next hroom =>
    refine changes_setCapt _ fun h => ?_
    obtain ⟨-, -, htotal, -, hrefs, -⟩ := h
    exact ⟨by simpa using hroom, Nat.zero_le _, htotal, Nat.zero_le _, hrefs, fun hc => absurd hc hst⟩
  next =>
    refine .trans (changes_setCapt _ fun h => ?_) (changes_raise (by decide) _)
    obtain ⟨hlen, -, -, hle, hrefs, -⟩ := h
    refine ⟨hlen, Nat.min_le_right _ _, Nat.min_le_right _ _, ?_, hrefs, fun hc => absurd hc hst⟩
    have hlimits : Config.pendingLostLimit ≤ Config.counterLimit := by decide
    exact le_min ((Nat.min_le_left _ _).trans (Nat.succ_le_succ hle)) ((Nat.min_le_right _ _).trans hlimits)

theorem changes_takeEdge (input : Fin 8) (s : State) : Changes s (takeEdge input s) := by
  unfold takeEdge
  split
  next e he =>
    have hst : s.ctl.state ≠ .config := by
      unfold shownEdge at he
      split at he
      next h => simpa [captureActive] using (Bool.and_eq_true_iff.mp (Bool.and_eq_true_iff.mp h).1).1
      next => cases he
    have href : Changes s (setReference input s) := by
      refine changes_setCapt _ fun h => ?_
      obtain ⟨hlen, hlost, htotal, hle, hrefs, -⟩ := h
      refine ⟨hlen, hlost, htotal, hle, fun i => ?_, fun hc => absurd hc hst⟩
      obtain ⟨hr, hs⟩ := hrefs i
      by_cases hi : input = i
      · subst hi; simp [hst]
      · have hne : input.val ≠ i.val := fun hv => hi (Fin.ext hv)
        simpa [hne] using hrefs i
    simp only
    split
    · exact href.trans (changes_offerCapture input e hst)
    · exact href
  next => exact .refl

theorem changes_sampleInputs (s : State) : Changes s (sampleInputs s) := by
  refine .trans ?_ (changes_foldl (fun t i => changes_takeEdge i t) _ _)
  split
  · exact .refl
  · exact changes_countChoice s

end Sys2Proof.Machine


/-! PROOFS. Every command and every act is a chain of elementary changes, so that what these keep every step keeps. -/

namespace Sys2Proof.Machine

/-- The outcome, when it is a next state, is reached by a chain of elementary changes. -/
def Leads (s : State) (o : Host.Outcome State Fault Refusal) : Prop := ∀ t, o = .next t → Changes s t

theorem leads_next {s t : State} (h : Changes s t) : Leads s (.next t) := by
  intro u hu
  cases hu
  exact h

/-- An event that changes nothing before it is due. -/
theorem leads_if {s t : State} {b : Bool} (h : b = true → Changes s t) : Leads s (.next (if b then t else s)) := by
  refine leads_next ?_
  split
  next hb => exact h hb
  next => exact .refl

/-! ### The local port (R155, R165 to R170) -/

theorem changes_storeResponse {s : State} {a : Answer} (code : Byte) (h : Changes s a.state) :
    Changes s (storeResponse code a) :=
  h.trans (changes_setPort _)

theorem changes_takeCommand {s : State} {owner : State → Answer} (code : Byte) (len : Nat) (args : List Byte)
    (h : s.ctl.resetting = false → Changes s (owner s).state) : Changes s (takeCommand code len args owner s) := by
  unfold takeCommand
  split
  next hc =>
    have hr : s.ctl.resetting = false := by
      simpa using (Bool.and_eq_true_iff.mp hc).1
    refine changes_storeResponse code ?_
    split
    · exact h hr
    · exact .refl
  next => exact changes_setPort _

theorem changes_inConfig {s : State} {owner : State → Answer} (h : s.ctl.state = .config → Changes s (owner s).state) :
    Changes s (inConfig s owner).state := by
  unfold inConfig
  split
  next hc => exact h hc
  next => exact .refl

theorem changes_configureChannel (args : List Byte) (s : State) : Changes s (ownConfigureChannel args s).state := by
  refine changes_inConfig fun _ => ?_
  split
  next c level policy _ _ _ =>
    refine .single (.configured _ fun d => ?_)
    by_cases hd : c.val = d.val
    · obtain rfl : c = d := Fin.ext hd
      simp
    · simp [hd]
  next => exact .refl

theorem changes_configureCapture (args : List Byte) (s : State) : Changes s (ownConfigureCapture args s).state := by
  refine changes_inConfig fun _ => ?_
  split
  · exact changes_setCapt _ id
  · exact .refl

theorem changes_configureTrim (args : List Byte) (s : State) : Changes s (ownConfigureTrim args s).state := by
  refine changes_inConfig fun _ => ?_
  split
  · exact changes_setTime _ rfl rfl id
  · exact .refl

theorem changes_readCapture (s : State) : Changes s (ownReadCapture s).state := by
  unfold ownReadCapture
  split
  next r rest hq =>
    refine changes_setCapt _ fun h => ?_
    obtain ⟨hlen, hlost, htotal, hle, hrefs, hconf⟩ := h
    refine ⟨?_, hlost, htotal, hle, hrefs, fun hc => ?_⟩
    · rw [hq] at hlen
      exact (Nat.le_succ _).trans hlen
    · have := (hconf hc).1
      rw [hq] at this
      cases this
  next => exact .refl

theorem changes_readNotice (s : State) : Changes s (ownReadNotice s).state := by
  simp only [ownReadNotice, afterReading]
  split
  · exact .refl
  · exact changes_clearNotice _ s
  · exact .refl

/-- The commands that read change nothing but the port. -/
theorem changes_read (args : List Byte) (s : State) :
    Changes s (ownReadOutcome args s).state ∧ Changes s (ownReadMember args s).state ∧
      Changes s (ownReadChannel args s).state ∧ Changes s (ownReadSet args s).state := by
  refine ⟨?_, ?_, ?_, ?_⟩
  · unfold ownReadOutcome
    simp only
    split
    · exact .refl
    · split <;> exact .refl
  · unfold ownReadMember
    split <;> exact .refl
  · unfold ownReadChannel
    split <;> exact .refl
  · unfold ownReadSet
    split <;> exact .refl

/-! ### Hard reset (R155) -/

theorem changes_endReset (address : Vector Level 5) (mode : ModePins) (s : State) :
    Changes s (endReset address mode s) := by
  unfold endReset
  simp only
  split
  · exact .head (.reset _ rfl) (.single (.started rfl rfl))
  · exact .single (.reset _ rfl)

/-! ### The line (R114, R117 to R124) -/

theorem observed_of_observesLine {s : State} (h : observesLine s = true) (hs : StationSound s) : s.line.observed ≠ none := by
  obtain ⟨-, hline, -⟩ := hs
  rw [ne_eq, hline]
  simpa [observesLine] using h

theorem changes_frameStart (s : State) : Leads s (execFrameStartEdge s) := by
  refine leads_next ?_
  split
  next h =>
    have hobs : s.line.observed ≠ none := fun hnone => by simp [atRest, hnone] at h
    simp only
    split
    · exact (changes_beginFrame fun _ => hobs).trans (changes_takeSample _)
    · exact changes_beginFrame fun _ => hobs
  next => exact .refl

theorem changes_gapEnd (s : State) : Leads s (execGapEnd s) := by
  refine leads_next ?_
  split
  next h => exact changes_observe _ fun _ hnone => by simp [gapEndDue, hnone] at h
  next => exact .refl

theorem changes_break (s : State) : Leads s (execBreakDetected s) := by
  refine leads_next ?_
  split
  next h =>
    have hobserves := (Bool.and_eq_true_iff.mp h).1
    have hbreak : Changes s (raise .line (countBreak (observe .brk s))) :=
      (changes_observe _ fun hs => observed_of_observesLine hobserves hs).trans
        ((changes_countBreak _).trans (changes_raise (by decide) _))
    simp only
    split
    next hatt =>
      obtain ⟨a, ha⟩ := Option.isSome_iff_exists.mp hatt
      exact hbreak.trans (changes_failAttempt (a := a) ha)
    next => exact hbreak
  next => exact .refl

theorem changes_breakEnd (s : State) : Leads s (execBreakEnd s) := by
  refine leads_next ?_
  split
  next h => exact changes_observe _ fun _ => by simp [h]
  next => exact .refl

theorem changes_frameEnd (cutShort : Bool) (s : State) : Leads s (execFrameEnd cutShort s) := by
  refine leads_next ?_
  split
  · exact .refl
  · exact changes_endFrame _ s

/-- An attempt begins with a frame of the queue or with a REPLY (R117, R124). -/
theorem changes_beginAttempt {s : State} {reply : Bool} {f : Frame} (hentry : reply = false → f ∈ s.line.queue)
    (hreply : reply = true → ∃ r ∈ s.line.replies, r.frame = f) (hm : s.ctl.state = .member) (hmute : s.line.mute = none)
    (hidle : s.line.observed = some .idle) : Changes s (beginAttempt reply f s) :=
  .tail ((changes_beginFrame fun _ => by simp [hidle]).trans (changes_takeSample _))
    (.attempt (s := takeSample (beginFrame s)) { reply := reply, entry := f, sent := fillFrame s f, start := s.clock.osc }
      hentry hreply hm hmute)

theorem changes_attemptStart (s : State) : Leads s (execAttemptStart s) := by
  refine leads_next ?_
  split
  next h =>
    simp only [attemptDue, Bool.and_eq_true, beq_iff_eq, Option.isNone_iff_eq_none] at h
    obtain ⟨⟨⟨⟨⟨⟨hm, hmute⟩, -⟩, -⟩, -⟩, hidle⟩, -⟩ := h
    split
    next f rest hq =>
      exact changes_beginAttempt (fun _ => by rw [hq]; exact List.mem_cons_self) nofun hm hmute hidle
    next => exact .refl
  next => exact .refl

theorem changes_arbitrationLoss (bit : Fin 8) (s : State) : Leads s (execArbitrationLoss bit s) := by
  refine leads_next ?_
  split
  next a ha =>
    split
    · refine .trans (changes_setLine { s.line with attempt := none } rfl (.inr rfl) (fun _ => id)
        (lineSound_setLine rfl rfl rfl (.inl rfl)) (fun _ => Iff.rfl) .inl .inl) (changes_countArbitrationLoss _)
    · exact .refl
  next => exact .refl

theorem changes_bitError (s : State) : Leads s (execBitError s) := by
  refine leads_next ?_
  split
  next hatt =>
    obtain ⟨a, ha⟩ := Option.isSome_iff_exists.mp hatt
    exact (changes_countBitError s).trans (changes_failAttempt (a := a) ha)
  next => exact .refl

theorem changes_muteEnd (s : State) : Leads s (execMuteEnd s) := by
  refine leads_next ?_
  split
  next =>
    refine changes_setLine _ rfl (.inl rfl) (fun _ => id) (fun h => ?_) (fun _ => Iff.rfl) .inl fun _ => .inl rfl
    exact lineSound_reset h.1 rfl rfl
  next => exact .refl

theorem changes_frameSent (s : State) : Leads s (execFrameSent s) := by
  refine leads_next ?_
  split
  next =>
    split
    next a ha =>
      split
      · exact changes_replySent ha
      next hr => exact changes_queueFrameSent ha (Bool.eq_false_iff.mpr hr)
    next => exact .refl
  next => exact .refl

theorem changes_reservationEnd (s : State) : Leads s (execReservationEnd s) := by
  refine leads_next ?_
  split
  · exact changes_setLine _ rfl (.inl rfl) (fun _ => id) (lineSound_setLine rfl rfl rfl (.inr (.inl rfl)))
      (fun _ => Iff.rfl) (fun _ => .inl rfl) .inl
  · exact .refl

/-- A REPLY leaves the list of those that wait for their slot (R124). -/
theorem changes_dropReply (which : PendingReply → Bool) (s : State) :
    Changes s (s.setLine { s.line with replies := s.line.replies.eraseP which }) :=
  changes_setLine _ rfl (.inl rfl) (fun _ h => List.mem_of_mem_eraseP h)
    (lineSound_setLine rfl rfl rfl (.inr (.inl rfl))) (fun _ => Iff.rfl) .inl .inl

theorem changes_replySlot (s : State) : Leads s (execReplySlotStart s) := by
  refine leads_next ?_
  split
  next r hfound =>
    simp only
    split
    next hcan =>
      simp only [canReply, Bool.and_eq_true, beq_iff_eq, Option.isNone_iff_eq_none] at hcan
      obtain ⟨⟨⟨⟨-, hm⟩, hmute⟩, -⟩, hidle⟩ := hcan
      have hbegin := changes_beginAttempt (s := s) (reply := true) (f := r.frame) nofun
        (fun _ => ⟨r, List.mem_of_find?_eq_some hfound, rfl⟩) hm hmute hidle
      exact hbegin.trans (changes_dropReply (slotReached s) _)
    next => exact changes_dropReply _ s
  next => exact .refl

/-! ### Frames received (R125 to R128, R161) -/

theorem changes_frameEnds {effect : State → State} (h : ∀ t, Changes t (effect t)) (s : State) :
    Changes s (frameEnds effect s) := by
  unfold frameEnds
  split
  · exact .refl
  · split
    · exact (changes_endFrame false s).trans (h _)
    · exact changes_endFrame false s

theorem state_of_passesFilter {s : State} {kind : FrameKind} (h : passesFilter s kind = true) :
    (s.ctl.state = .joining ∨ s.ctl.state = .member) ∧ (kind ≠ .sync → s.ctl.state = .member) := by
  have hcases : s.ctl.state = .member ∨ s.ctl.state = .joining ∧ kind = .sync := by simpa [passesFilter] using h
  exact ⟨hcases.elim .inr fun h => .inl h.1, fun hne => hcases.resolve_right fun h => hne h.2⟩

/-- What a frame has shown when it is delivered: well formed, let through, from another station, which has been heard. -/
structure Delivered (src : Station) (body : Body) (t : State) : Prop where
  formed : body.formed src = true
  state : t.ctl.state = .joining ∨ t.ctl.state = .member
  member : body.kind ≠ .sync → t.ctl.state = .member
  other : src ≠ t.ctl.number
  present : t.memb.entries[src].state = .present

theorem changes_receiveFrame {src : Station} {body : Body} {deliver : State → State}
    (h : ∀ t, Delivered src body t → Changes t (deliver t)) (s : State) :
    Leads s (.next (receiveFrame src body deliver s)) := by
  refine leads_next (changes_frameEnds (fun t => ?_) s)
  split
  next => exact changes_countMalformed t
  next hformed =>
    split
    next => exact .refl
    next hpass =>
      obtain ⟨hstate, hmember⟩ := state_of_passesFilter (by simpa using hpass)
      split
      next => exact .single (.faulted hstate)
      next hother =>
        refine (changes_hear hother).trans (h _ ⟨by simpa using hformed, ?_, ?_, ?_, hear_entry src t⟩)
        · rw [hear_ctl]; exact hstate
        · rw [hear_ctl]; exact hmember
        · rw [hear_ctl]; exact hother

theorem changes_ifAddressed {dest : Station} {effect : State → State} {s : State} (h : Changes s (effect s)) :
    Changes s (ifAddressed dest effect s) := by
  unfold ifAddressed
  split
  · exact h
  · exact .refl

theorem changes_ifProposer {src : Station} {set : SetId} {effect : State → State} {s : State}
    (h : set.proposer = src → Changes s (effect s)) : Changes s (ifProposer src set effect s) := by
  unfold ifProposer
  split
  next hsrc => exact h hsrc
  next => exact changes_countAnomaly s

theorem changes_reserve {s : State} (n : Nat) (hm : s.ctl.state = .member) : Changes s (reserve n s) :=
  changes_reserveOwn n fun _ => hm

theorem changes_crcError (cause : CrcCause) (s : State) : Leads s (execCrcError cause s) := by
  refine leads_next ?_
  split
  · exact .refl
  · split
    · exact (changes_endFrame _ s).trans (changes_countCrcError _)
    · exact changes_endFrame _ s

theorem changes_ownNumber (kind : FrameKind) (s : State) : Leads s (execOwnNumberFrame kind s) := by
  refine leads_next (changes_frameEnds (fun t => ?_) s)
  split
  next h => exact .single (.faulted (state_of_passesFilter h).1)
  next => exact .refl

theorem changes_sync (src : Station) (time : NetTime) (s : State) : Leads s (execSync src time s) := by
  refine changes_receiveFrame (fun t ht => ?_) s
  split
  · exact changes_takeSync _ _ ht.state
  · exact .refl

theorem changes_stage (src dest : Station) (set : SetId) (items : List Item) (s : State) :
    Leads s (execStage src dest set items s) := by
  refine changes_receiveFrame (fun t ht => changes_ifAddressed (changes_ifProposer fun hset => ?_)) s
  exact changes_stageEffect items (ht.member (by simp [Body.kind])) (by rw [hset]; exact ht.other)

theorem changes_call (src : Station) (set : SetId) (epoch : NetTime) (targets : List CallEntry) (s : State) :
    Leads s (execCall src set epoch targets s) := by
  refine changes_receiveFrame (fun t ht => (changes_reserve _ (ht.member (by simp [Body.kind]))).trans
    (changes_ifProposer fun hset => ?_)) s
  exact changes_callEffect epoch targets (s := reserve targets.length t) (ht.member (by simp [Body.kind])) (by rw [hset]; exact ht.other)

theorem changes_reply (src dest : Station) (set : SetId) (verdict : Verdict) (slots : Byte) (s : State) :
    Leads s (execReply src dest set verdict slots s) := by
  refine changes_receiveFrame (fun t ht => ?_) s
  have hslots : slots.toNat ≤ 32 := of_decide_eq_true (Bool.and_eq_true_iff.mp ht.formed).2
  exact (changes_reportSlots ht.other ht.present hslots).trans (changes_ifAddressed (changes_replyEffect _ _ _ _))

theorem changes_presence (src : Station) (lock : LockState) (records slots : Byte) (join : Bool) (s : State) :
    Leads s (execPresence src lock records slots join s) := by
  refine changes_receiveFrame (fun t ht => ?_) s
  obtain ⟨hrecords, hslots⟩ := Bool.and_eq_true_iff.mp ht.formed
  refine .trans (changes_reportPresence lock ht.other ht.present (of_decide_eq_true hrecords) (of_decide_eq_true hslots)) ?_
  simp only
  split
  · exact (changes_purgeProposer (s := reportPresence src lock records.toNat slots.toNat t) src
      (ht.member (by simp [Body.kind]))).trans (changes_raise (n := .member) (by decide) _)
  · exact .refl

/-! ### Every command (R155 to R179) -/

theorem exec_leads (i : Instr) (s : State) : Leads s (exec i s) := by
  cases i with
  | hardReset edge address mode =>
    refine leads_next ?_
    cases edge with
    | asserted => exact .single (.reset _ rfl)
    | released => exact changes_endReset address mode s
  | nop args => exact leads_next (changes_takeCommand _ _ _ fun _ => .refl)
  | unknownCommand code args =>
    refine leads_next ?_
    split <;> exact changes_setPort _
  | transactionWithoutCommand => exact leads_next (changes_setPort _)
  | configureChannel args => exact leads_next (changes_takeCommand _ _ _ fun _ => changes_configureChannel args s)
  | configureCapture args => exact leads_next (changes_takeCommand _ _ _ fun _ => changes_configureCapture args s)
  | configureTrim args => exact leads_next (changes_takeCommand _ _ _ fun _ => changes_configureTrim args s)
  | configureNotices args => exact leads_next (changes_takeCommand _ _ _ fun _ => changes_setNotes _ id)
  | start args =>
    exact leads_next (changes_takeCommand _ _ _ fun hr => changes_inConfig fun hc => .single (.started hc hr))
  | restart args => exact leads_next (changes_takeCommand _ _ _ fun _ => .single .restarted)
  | openSet args => exact leads_next (changes_takeCommand _ _ _ fun _ => changes_ownOpenSet args s)
  | addItem args => exact leads_next (changes_takeCommand _ _ _ fun _ => changes_ownAddItem args s)
  | submit args => exact leads_next (changes_takeCommand _ _ _ fun _ => changes_ownSubmit s)
  | withdraw args => exact leads_next (changes_takeCommand _ _ _ fun _ => changes_ownWithdraw s)
  | readOutcome args => exact leads_next (changes_takeCommand _ _ _ fun _ => (changes_read args s).1)
  | readCapture args => exact leads_next (changes_takeCommand _ _ _ fun _ => changes_readCapture s)
  | readNotice args => exact leads_next (changes_takeCommand _ _ _ fun _ => changes_readNotice s)
  | readTime args => exact leads_next (changes_takeCommand _ _ _ fun _ => .refl)
  | readMember args => exact leads_next (changes_takeCommand _ _ _ fun _ => (changes_read args s).2.1)
  | readChannel args => exact leads_next (changes_takeCommand _ _ _ fun _ => (changes_read args s).2.2.1)
  | readSet args => exact leads_next (changes_takeCommand _ _ _ fun _ => (changes_read args s).2.2.2)
  | readStatus args => exact leads_next (changes_takeCommand _ _ _ fun _ => .refl)
  | frameStartEdge => exact changes_frameStart s
  | gapEnd => exact changes_gapEnd s
  | breakDetected => exact changes_break s
  | breakEnd => exact changes_breakEnd s
  | crcError cause => exact changes_crcError cause s
  | unknownKind => exact leads_next (changes_frameEnds changes_countUnknownKind s)
  | malformedFrame => exact leads_next (changes_frameEnds changes_countMalformed s)
  | ownNumberFrame kind => exact changes_ownNumber kind s
  | sync src time => exact changes_sync src time s
  | stage src dest set items => exact changes_stage src dest set items s
  | call src set epoch targets => exact changes_call src set epoch targets s
  | commit src set =>
    exact changes_receiveFrame (fun t ht => changes_ifProposer fun _ =>
      changes_commitEffect false set (ht.member (by simp [Body.kind]))) s
  | abort src set reason =>
    exact changes_receiveFrame (fun t _ => changes_ifProposer fun _ => changes_abortEffect set t) s
  | decision src dest set outcome =>
    exact changes_receiveFrame (fun t ht => changes_ifAddressed (changes_ifProposer fun _ =>
      changes_decisionEffect set outcome (ht.member (by simp [Body.kind])))) s
  | reply src dest set verdict slots => exact changes_reply src dest set verdict slots s
  | inquire src dest set =>
    exact changes_receiveFrame (fun t ht => changes_ifAddressed (changes_inquireEffect src set (ht.member (by simp [Body.kind])))) s
  | missed src dest set =>
    exact changes_receiveFrame (fun t ht => changes_ifAddressed (changes_missedEffect src set (ht.member (by simp [Body.kind])))) s
  | presence src lock records slots join => exact changes_presence src lock records slots join s
  | attemptStart => exact changes_attemptStart s
  | arbitrationLoss bit => exact changes_arbitrationLoss bit s
  | bitError => exact changes_bitError s
  | muteEnd => exact changes_muteEnd s
  | frameSent => exact changes_frameSent s
  | replySlotStart => exact changes_replySlot s
  | reservationEnd => exact changes_reservationEnd s
  | windowEnd => exact leads_if fun h => changes_windowEnd h
  | supervisionExpiry =>
    refine leads_next ?_
    split
    next h => exact changes_supervision h
    next => exact .refl
  | selfSource => exact leads_if fun h => changes_selfSource h
  | syncTimerExpiry => exact leads_if fun h => changes_syncTimer h
  | slewPiece =>
    refine leads_next ?_
    split
    next h => exact changes_slewPiece h
    next => exact .refl
  | staleTimeout pos =>
    exact leads_if fun _ => (changes_freeRecord pos s).trans (changes_raise (n := .setDropped) (by decide) _)
  | decisionTimeout pos => exact leads_if fun h => changes_decisionTimeout h
  | inquiryTimer pos => exact leads_if fun h => changes_inquiryTimer h
  | epochApply pos => exact leads_if fun h => changes_applyRecord h
  | epochExpiry pos => exact leads_if fun _ => changes_expireRecord pos s
  | selfRecordEpoch pos => exact leads_if fun _ => changes_expireSelf pos s
  | proposerEpoch => exact leads_next (changes_meetProposerEpoch s)
  | swapComplete channel => exact leads_next (changes_completeSwap channel s)
  | membershipIntervalEnd => exact leads_if fun h => changes_intervalEnd h
  | presenceCheck => exact leads_if fun h => changes_presenceCheck h
  | captureEdge input level => exact leads_next ((changes_setPin input level s).trans (changes_sampleInputs _))
  | frameEnd cutShort => exact changes_frameEnd cutShort s
  | sselAsserted =>
    refine leads_next ?_
    split
    · exact changes_setPort _
    · exact .refl

/-! ### Every step -/

/-- A microsecond is among the acts only when one has to be taken. -/
theorem microDue_of_mem {s : State} (h : Act.micro ∈ dueActs s) : s.clock.microDue = true := by
  have hevent (b : Bool) (i : Instr) : Act.micro ∉ dueIf b i := by cases b <;> simp [dueIf]
  unfold dueActs at h
  split at h
  · simp at h
  · split at h
    · exact absurd h (hevent _ _)
    next hopen =>
      by_contra hne
      have hnone : microAct s = [] := by simp [microAct, hne]
      simp [openActs, hnone, hevent, recordActs] at h

theorem chooseAct_some {s t : State} {a : Act} (h : chooseAct s = some (a, t)) :
    a ∈ dueActs s ∧ (t = s ∨ t = countChoice s) := by
  unfold chooseAct at h
  split at h
  next => cases h
  next b hb => cases h; exact ⟨by rw [hb]; exact List.mem_singleton_self _, .inl rfl⟩
  next b rest _ hb =>
    cases h
    refine ⟨?_, .inr rfl⟩
    have hlt : Config.pickEvent s.clock.choices % (rest.length + 1) < (b :: rest).length := Nat.mod_lt _ (Nat.succ_pos _)
    rw [hb, List.getD_eq_getElem _ _ hlt]
    exact List.getElem_mem _

theorem step_changes {s t : State} (h : step s = .next t) : Changes s t := by
  unfold step at h
  split at h
  next c rest hp => exact (changes_setPending rest).trans (exec_leads c _ t h)
  next hp =>
    unfold autoStep at h
    split at h
    next i u hact =>
      rcases (chooseAct_some hact).2 with rfl | rfl
      · exact exec_leads i _ t h
      · exact (changes_countChoice s).trans (exec_leads i _ t h)
    next u hact =>
      obtain ⟨hmem, hu⟩ := chooseAct_some hact
      have hdue := microDue_of_mem hmem
      cases h
      rcases hu with rfl | rfl
      · exact changes_plainMicro hdue
      · exact (changes_countChoice s).trans (changes_plainMicro (s := countChoice s) hdue)
    next => cases h; exact changes_tick s

/-- What every elementary change keeps, every step keeps. -/
theorem step_keeps {P : State → Prop} (hP : ∀ s t, Change s t → P s → P t) {s t : State} (hs : P s)
    (h : step s = .next t) : P t :=
  (step_changes h).keeps hP hs

/-! ### The invariants of every step -/

/-- Settles O57: a claim is with its holder after every elementary change, and so after every step. -/
theorem stepsKeepClaimsSound : Obligations.StepsKeepClaimsSound :=
  fun _ _ hs h => step_keeps (fun _ _ hc => hc.keeps_claims) hs h

/-- The place of a frame in a queue in order: behind the values that are not higher, before those that are (R115). -/
theorem insertFrame_eq_filter (f : Frame) {q : List Frame} (h : q.Pairwise fun x y => x.arbitration ≤ y.arbitration) :
    insertFrame f q =
      (q.filter fun x => x.arbitration ≤ f.arbitration) ++ f :: q.filter fun x => f.arbitration < x.arbitration := by
  induction q with
  | nil => rfl
  | cons g rest ih =>
    obtain ⟨hg, hrest⟩ := List.pairwise_cons.mp h
    rw [insertFrame]
    split
    next hle =>
      rw [ih hrest, List.filter_cons_of_pos (by simpa using hle), List.filter_cons_of_neg (by simpa using hle)]
      rfl
    next hgt =>
      have habove : ∀ x ∈ g :: rest, f.arbitration < x.arbitration := fun x hx => by
        rcases List.mem_cons.mp hx with rfl | hx
        · omega
        · have := hg x hx; omega
      rw [List.filter_eq_nil_iff.mpr fun x hx => by simpa using habove x hx,
        List.filter_eq_self.mpr fun x hx => by simpa using habove x hx]
      rfl

/-- Settles O58: the queue and its owners' accounts are kept together by every elementary change. -/
theorem stepsKeepTheQueueAndItsOwnersSound : Obligations.StepsKeepTheQueueAndItsOwnersSound :=
  ⟨fun f _ h => insertFrame_eq_filter f h,
    fun _ => ⟨isSync_iff, fun _ => isInquireFor_iff, isProposalFrame_iff⟩,
    fun _ _ hs h => step_keeps (P := fun u => QueueSound u ∧ OwnersSound u)
      (fun _ _ hc hu => ⟨hc.keeps_queue hu.2.1 hu.1, hc.keeps_owners hu.2⟩) hs h⟩

/-- Settles O59: the table, the store, the draft and the recently-closed list are each kept by every elementary change. -/
theorem stepsKeepTheStoreSound : Obligations.StepsKeepTheStoreSound :=
  fun _ _ hs h => ⟨step_keeps (fun _ _ hc => hc.keeps_store) hs.1 h, step_keeps (fun _ _ hc => hc.keeps_closed) hs.2 h⟩

/-- Settles O60: each other unit's invariant is kept by every elementary change, that of network time while the owners' accounts
are sound. -/
theorem stepsKeepTheUnitsSound : Obligations.StepsKeepTheUnitsSound := by
  intro s t h
  refine ⟨fun hs => step_keeps (fun _ _ hc => hc.keeps_log) hs h, fun hs => step_keeps (fun _ _ hc => hc.keeps_members) hs h,
    fun hs => step_keeps (fun _ _ hc => hc.keeps_counts) hs h, fun hs => step_keeps (fun _ _ hc => hc.keeps_station) hs h,
    fun howners htime => ?_, fun hs => step_keeps (fun _ _ hc => hc.keeps_captures) hs h,
    fun hs => step_keeps (fun _ _ hc => hc.keeps_notices) hs h⟩
  exact (step_keeps (P := fun u => OwnersSound u ∧ TimeSound u)
    (fun _ _ hc hu => ⟨hc.keeps_owners hu.1, hc.keeps_time hu.1 hu.2⟩) ⟨howners, htime⟩ h).2

end Sys2Proof.Machine


/-! PROOFS. The front of the queue, and the state at reset. -/

namespace Sys2Proof.Machine

/-- Settles O1: a step with a command waiting is that command's arm of the dispatch. -/
theorem stepRunsTheFrontCommand : Obligations.StepRunsTheFrontCommand := by
  intro s c rest h
  simp only [step, h]

/-- Settles O56: at reset nothing is held, queued, open or counted. -/
theorem resetStateIsSound : Obligations.ResetStateIsSound :=
  ⟨queueSound_empty rfl rfl, ownersSound_initial rfl rfl rfl rfl rfl rfl,
    claimsSound_initial (by decide) rfl, storeSound_initial rfl rfl, ⟨Nat.zero_le _, List.nodup_nil⟩, logSound_initial rfl,
    membersSound_initial rfl, lineSound_reset countersSound_initial rfl rfl,
    stationSound_quiet rfl rfl (by decide) rfl rfl rfl rfl rfl rfl rfl rfl rfl (iff_of_true rfl rfl) nofun,
    timeSound_config rfl rfl rfl, captureSound_initial ⟨_, _, rfl⟩ rfl, BitVec.getLsbD_zero⟩

end Sys2Proof.Machine


/-! PROOFS. The local port, the configuration commands, and the life of the station: hard reset, START, RESTART (Chapters 10 and 11). -/

namespace Sys2Proof.Machine

/-! ### Commands by their code (R139, R169) -/

/-- A command of a known code is one that the port takes with the argument length of the code. -/
theorem exec_commandOf_known {code : Byte} (h : code.toNat < 19) (args : List Byte) (s : State) :
    ∃ len owner, argumentLengths[code.toNat]? = some len ∧
      exec (commandOf code args) s = .next (takeCommand code len args owner s) := by
  obtain ⟨k, hk⟩ : ∃ k : Fin 19, code = BitVec.ofNat 8 k.val :=
    ⟨⟨code.toNat, h⟩, by rw [BitVec.ofNat_toNat, BitVec.setWidth_eq]⟩
  subst hk
  fin_cases k <;> exact ⟨_, _, rfl, rfl⟩

/-- Every other code is that of an unknown command. -/
theorem commandOf_unknown {code : Byte} (h : 19 ≤ code.toNat) (args : List Byte) :
    commandOf code args = .unknownCommand code args := by
  unfold commandOf
  split <;> first | omega | rfl

/-- An unknown command is refused when it is taken, and else the transaction just ends. -/
theorem exec_unknownCommand {code : Byte} (h : 19 ≤ code.toNat) (args : List Byte) (s : State) :
    exec (.unknownCommand code args) s =
      .next (if carriesCommand s then withResponse s code .badArgument [] else releaseOnly s) := by
  have hcode : decide (19 ≤ code.toNat) = true := decide_eq_true h
  change Host.Outcome.next (if carriesCommand s && decide (19 ≤ code.toNat) then _ else _) = _
  rw [hcode, Bool.and_true]
  rfl

/-- Settles O7: the port's own check of code and length comes before every owner. -/
theorem portRefusesUnknownCodesAndWrongLengths : Obligations.PortRefusesUnknownCodesAndWrongLengths := by
  intro s code args hc
  have unknown (h : 19 ≤ code.toNat) :
      exec (.unknownCommand code args) s = .next (withResponse s code .badArgument []) := by
    rw [exec_unknownCommand h, if_pos hc]
  refine ⟨fun hlen => ?_, fun h => ⟨commandOf_unknown h args, unknown h⟩⟩
  by_cases h : code.toNat < 19
  · obtain ⟨len, owner, hl, hexec⟩ := exec_commandOf_known h args s
    rw [hexec, takeCommand_length hc fun he => hlen (by rw [hl, he])]
    rfl
  · rw [commandOf_unknown (Nat.not_lt.mp h), unknown (Nat.not_lt.mp h)]

/-! ### Transactions (R166 to R168) -/

theorem carriesCommand_iff {s : State} :
    carriesCommand s = true ↔ s.ctl.resetting = false ∧ s.port.transaction ≠ some .spoiled := by
  simp [carriesCommand]

/-- A bit of a character, most significant first. -/
theorem byteBits_getD (b : Byte) (bit : Fin 8) : (byteBits b).getD bit.val false = b.getLsbD (7 - bit.val) := by
  fin_cases bit <;> rfl

/-- Settles O8: what a transaction carries, clause by clause. -/
theorem transactionsCarryCommandsOnlyWhole : Obligations.TransactionsCarryCommandsOnlyWhole := by
  refine ⟨fun s => carriesCommand_iff, fun s hidle => ?asserted, fun s => rfl, fun s code args hmet => ?spoiled,
    fun s t edge sa mode hopen ht => ?reset, fun s k bit => ?shown⟩
  case asserted =>
    change Host.Outcome.next (if s.port.transaction.isNone then _ else _) = _
    rw [hidle]
    rfl
  case spoiled =>
    have hc : carriesCommand s = false := by
      rw [← Bool.not_eq_true, carriesCommand_iff]
      rintro ⟨hreset, hlive⟩
      rcases hmet with h | h
      · exact hlive h
      · rw [h] at hreset; cases hreset
    by_cases h : code.toNat < 19
    · obtain ⟨len, owner, -, hexec⟩ := exec_commandOf_known h args s
      rw [hexec, takeCommand_spoiled hc]
      rfl
    · rw [commandOf_unknown (Nat.not_lt.mp h), exec_unknownCommand (Nat.not_lt.mp h), hc]
      rfl
  case reset =>
    obtain ⟨x, hx⟩ := Option.ne_none_iff_exists'.mp hopen
    have hspoiled (ctl : StationController) : (hardResetStation ctl s).port.transaction = some .spoiled := by
      simp [hardResetStation, hx]
    cases edge with
    | asserted => cases ht; exact hspoiled _
    | released =>
      cases ht
      unfold endReset
      simp only
      split
      · simp [startStation, observe, hspoiled]
      · exact hspoiled _
  case shown =>
    have hdiv : (8 * k + bit.val) / 8 = k := by omega
    have hmod : (8 * k + bit.val) % 8 = bit.val := by omega
    refine ⟨fun hidle => by rw [sdo, hidle]; rfl, fun hopen => ?_⟩
    obtain ⟨x, hx⟩ := Option.ne_none_iff_exists'.mp hopen
    rw [sdo, hx, Option.map_some, hdiv, hmod, byteBits_getD]
    rfl

/-! ### Hard reset, START and RESTART (R154, R155, R158, R163) -/

/-- The member table at reset, entry by entry (R101, R112). -/
theorem membership_initial (own : Station) : Membership.initial own =
    { entries := resetEntries own, interval := none, presence := none, announced := false, ownPresence := false } := by
  have hentries : (Membership.initial own).entries = resetEntries own := by
    refine Vector.ext fun i hi => ?_
    simp only [Membership.initial, resetEntries, Vector.getElem_set, Vector.getElem_replicate, Vector.getElem_ofFn,
      MemberEntry.initial, Fin.ext_iff]
    by_cases h : own.val = i
    · simp [h]
    · simp [h, Ne.symm h]
  rw [← hentries]
  rfl

/-- The hard-reset values of every block, in the words of each chapter. -/
theorem hardResetStation_eq (ctl : StationController) (s : State) : hardResetStation ctl s = afterHardReset s ctl := by
  rw [hardResetStation, membership_initial]
  rfl

/-- The straps as the pins give them (R154). -/
theorem strapNumber_eq {sa : Vector Level 5} {number : Station}
    (h : number.val = 16 * sa[4].code + 8 * sa[3].code + 4 * sa[2].code + 2 * sa[1].code + sa[0].code) :
    strapNumber sa = number := by
  refine Fin.ext ?_
  have hlt := number.isLt
  rw [strapNumber, Fin.val_ofNat, Nat.mod_eq_of_lt (by omega)]
  omega

theorem strapRate_eq {mode : ModePins} {rate : LineRate} (h : rate.code = 2 * mode.lr1.code + mode.lr0.code) :
    strapRate mode = rate := by
  obtain ⟨lr1, lr0, auto⟩ := mode
  cases lr1 <;> cases lr0 <;> cases rate <;> first | rfl | simp [LineRate.code, Level.code] at h

/-- Settles O3: both edges of a hard reset, and what shows while it lasts. -/
theorem hardResetLeavesTheResetValues : Obligations.HardResetLeavesTheResetValues := by
  refine ⟨fun s sa mode number rate hauto hnumber hrate => ?_, fun s sa mode => ?_, fun s h => outputs_resetting h⟩
  · have hclear : strapAuto mode = false := by simp [strapAuto, hauto]
    change Host.Outcome.next (endReset sa mode s) = _
    simp only [endReset, hclear, Bool.false_eq_true, if_false, strapNumber_eq hnumber, strapRate_eq hrate,
      hardResetStation_eq]
  · change Host.Outcome.next (beginReset s) = _
    rw [beginReset, hardResetStation_eq]

theorem exec_start {s : State} (hc : carriesCommand s = true) :
    exec (.start []) s = .next (storeResponse 5 (inConfig s fun u => answer (startStation u) .ok)) :=
  congrArg _ (takeCommand_owner (len := 0) (args := []) (owner := fun t => inConfig t fun u => answer (startStation u) .ok)
    hc rfl)

theorem exec_restart {s : State} (hc : carriesCommand s = true) :
    exec (.restart []) s = .next (withResponse (restartStation s) 6 .ok []) :=
  congrArg _ (takeCommand_owner (len := 0) (args := []) (owner := fun t => answer (restartStation t) .ok) hc rfl)

/-- Settles O4: START, and the auto-start strap, from the values that the hard reset has left. -/
theorem startMakesTheStationJoining : Obligations.StartMakesTheStationJoining := by
  refine ⟨fun s hconfig hc => ?_, fun s t sa mode ht => ?_⟩
  · rw [exec_start hc, inConfig, if_pos hconfig]
    rfl
  · cases ht
    rfl

/-- A frame has six characters beside its body (R132, R133). -/
theorem length_encodeFrame (f : Frame) : (encodeFrame f).length = 6 + (bodyBytes f.body).length := by
  simp only [encodeFrame, headerBytes, List.length_append, List.length_cons, List.length_nil, length_beBytes]
  omega

/-- The end of the character of length `c` in progress since `start`, of `n` characters, against the next instant. -/
theorem characterEnd_arith {start osc c n : Nat} (hc : 0 < c) (hn : 0 < n) :
    max (start + min ((osc - start) / c + 1) n * c) (osc + 1) =
      if osc < start + n * c then start + ((osc - start) / c + 1) * c else osc + 1 := by
  have hdiv := Nat.div_add_mod (osc - start) c
  have hmod := Nat.mod_lt (osc - start) hc
  split
  next hlt =>
    have hq : (osc - start) / c < n := by
      rw [Nat.div_lt_iff_lt_mul hc]
      have : 0 < n * c := Nat.mul_pos hn hc
      omega
    rw [Nat.min_eq_left hq, max_eq_left]
    rw [Nat.succ_mul, Nat.mul_comm]
    omega
  next hge =>
    have hq : n ≤ (osc - start) / c := by
      rw [Nat.le_div_iff_mul_le hc]
      omega
    rw [Nat.min_eq_right (Nat.le_succ_of_le hq), max_eq_right]
    omega

/-- The drive that aborts an attempt ends with its character, or covers the present half microsecond (R116). -/
theorem characterEnd_eq (s : State) (a : Attempt) : max (characterEnd s a) (s.clock.osc + 1) = driveEnd s a := by
  have hbit : 0 < bitTime s.ctl.rate := by cases s.ctl.rate <;> decide
  have hdiv : (s.clock.osc - a.start) / bitTime s.ctl.rate / 10 = (s.clock.osc - a.start) / (10 * bitTime s.ctl.rate) := by
    rw [Nat.div_div_eq_div_mul, Nat.mul_comm]
  simp only [characterEnd, bits, bitsSince, Config.charBits, driveEnd, length_encodeFrame, hdiv]
  rw [Nat.mul_right_comm 10, Nat.mul_comm (10 * bitTime s.ctl.rate)]
  exact characterEnd_arith (by omega) (by omega)

/-- Settles O5: RESTART, block by block. -/
theorem restartKeepsTheConfigurationAlone : Obligations.RestartKeepsTheConfigurationAlone := by
  intro s hc
  have hdrive : (abortAttempt s).line.driveUntil =
      s.line.attempt.elim s.line.driveUntil fun a => some (driveEnd s a) := by
    rw [abortAttempt_eq]
    cases s.line.attempt with
    | none => rfl
    | some a => exact congrArg some (characterEnd_eq s a)
  rw [exec_restart hc, restartStation, hdrive, membership_initial]
  rfl

/-! ### The configuration commands (R2, R95, R144, R156, R175) -/

theorem exec_configureChannel {s : State} (hc : carriesCommand s = true) (a b c : Byte) :
    exec (.configureChannel [a, b, c]) s = .next (storeResponse 1 (ownConfigureChannel [a, b, c] s)) :=
  congrArg _ (takeCommand_owner hc rfl)

theorem exec_configureCapture {s : State} (hc : carriesCommand s = true) (a b : Byte) :
    exec (.configureCapture [a, b]) s = .next (storeResponse 2 (ownConfigureCapture [a, b] s)) :=
  congrArg _ (takeCommand_owner hc rfl)

theorem exec_configureTrim {s : State} (hc : carriesCommand s = true) (a : Byte) :
    exec (.configureTrim [a]) s = .next (storeResponse 3 (ownConfigureTrim [a] s)) :=
  congrArg _ (takeCommand_owner hc rfl)

theorem exec_configureNotices {s : State} (hc : carriesCommand s = true) (hi lo : Byte) :
    exec (.configureNotices [hi, lo]) s = .next (storeResponse 4 (ownConfigureNotices [hi, lo] s)) :=
  congrArg _ (takeCommand_owner hc rfl)

theorem charAt_cons_zero (b : Byte) (rest : List Byte) : charAt (b :: rest) 0 = b := rfl

theorem charAt_cons_succ (b : Byte) (rest : List Byte) (k : Nat) : charAt (b :: rest) (k + 1) = charAt rest k := rfl

theorem levelArg?_code (level : Level) : levelArg? (BitVec.ofNat 8 level.code).toNat = some level := by
  cases level <;> rfl

theorem policyArg?_code (policy : LossPolicy) : policyArg? (BitVec.ofNat 8 policy.code).toNat = some policy := by
  cases policy <;> rfl

theorem selectionArg?_code (k : Fin 4) : selectionArg? (BitVec.ofNat 8 k.val).toNat = some selectionCodes[k] := by
  fin_cases k <;> rfl

theorem levelArg?_none {n : Nat} (h : 1 < n) : levelArg? n = none :=
  match n, h with
  | _ + 2, _ => rfl

theorem policyArg?_none {n : Nat} (h : 1 < n) : policyArg? n = none :=
  match n, h with
  | _ + 2, _ => rfl

theorem selectionArg?_none {n : Nat} (h : 3 < n) : selectionArg? n = none :=
  match n, h with
  | _ + 4, _ => rfl

/-- Settles O9: each configuration command by the station state and its arguments. -/
theorem configurationCommands : Obligations.ConfigurationCommands := by
  intro s hc
  refine ⟨fun hconfig => ⟨fun c level policy => ?channel, fun i k => ?capture, fun trim => ?trim⟩, fun hi lo => ?notices,
    fun hstate => ⟨fun a b c => ?channelState, fun a b => ?captureState, fun a => ?trimState, ?startState⟩,
    fun hconfig => ⟨fun a b c hbad => ?channelBad, fun a b hbad => ?captureBad, fun a hbad => ?trimBad⟩⟩
  case channel =>
    rw [exec_configureChannel hc, ownConfigureChannel, inConfig, if_pos hconfig]
    simp only [charAt_cons_zero, charAt_cons_succ, indexArg?_ofNat (show 16 ≤ 256 by decide), levelArg?_code, policyArg?_code]
    rfl
  case capture =>
    rw [exec_configureCapture hc, ownConfigureCapture, inConfig, if_pos hconfig]
    simp only [charAt_cons_zero, charAt_cons_succ, indexArg?_ofNat (show 8 ≤ 256 by decide), selectionArg?_code]
    rfl
  case trim =>
    rw [exec_configureTrim hc, ownConfigureTrim, inConfig, if_pos hconfig]
    simp only [charAt_cons_zero, indexArg?_ofNat (show 16 ≤ 256 by decide)]
    rfl
  case notices =>
    have hfield : fieldAt [hi, lo] 0 2 = hi.toNat * 256 + lo.toNat := by simp [fieldAt, ofBytes]
    rw [exec_configureNotices hc, ownConfigureNotices, hfield]
    rfl
  case channelState => rw [exec_configureChannel hc, ownConfigureChannel, inConfig, if_neg hstate]; rfl
  case captureState => rw [exec_configureCapture hc, ownConfigureCapture, inConfig, if_neg hstate]; rfl
  case trimState => rw [exec_configureTrim hc, ownConfigureTrim, inConfig, if_neg hstate]; rfl
  case startState => rw [exec_start hc, inConfig, if_neg hstate]; rfl
  case channelBad =>
    have hanswer : ownConfigureChannel [a, b, c] s = answer s .badArgument := by
      rw [ownConfigureChannel, inConfig, if_pos hconfig]
      simp only [charAt_cons_zero, charAt_cons_succ]
      split
      next hi hl hp =>
        rcases hbad with h | h | h
        · rw [indexArg?_none h] at hi; cases hi
        · rw [levelArg?_none h] at hl; cases hl
        · rw [policyArg?_none h] at hp; cases hp
      next => rfl
    rw [exec_configureChannel hc, hanswer, storeResponse_answer]
  case captureBad =>
    have hanswer : ownConfigureCapture [a, b] s = answer s .badArgument := by
      rw [ownConfigureCapture, inConfig, if_pos hconfig]
      simp only [charAt_cons_zero, charAt_cons_succ]
      split
      next hi hs =>
        rcases hbad with h | h
        · rw [indexArg?_none h] at hi; cases hi
        · rw [selectionArg?_none h] at hs; cases hs
      next => rfl
    rw [exec_configureCapture hc, hanswer, storeResponse_answer]
  case trimBad =>
    rw [exec_configureTrim hc, ownConfigureTrim, inConfig, if_pos hconfig]
    simp only [charAt_cons_zero, indexArg?_none (Nat.succ_le_of_lt hbad)]
    rfl

end Sys2Proof.Machine


/-! PROOFS. The observed line, discarded and filtered frames, entry to FAULTED, the ends of attempts, mutes, reservations and reply
slots (R114, R118, R119, R121 to R127, R136, R137, R161). -/

namespace Sys2Proof.Machine

/-! ### The observed line (R114, R121) -/

theorem exec_frameStartEdge {s : State} (h : atRest s = true) :
    exec .frameStartEdge s = .next (if checksFrames s then takeSample (beginFrame s) else beginFrame s) :=
  congrArg _ (if_pos h)

theorem exec_gapEnd (s : State) : exec .gapEnd s = .next (if gapEndDue s then observe .idle s else s) := rfl

theorem exec_frameEnd {s : State} (h : s.line.attempt = none) (cutShort : Bool) :
    exec (.frameEnd cutShort) s = .next (endFrame cutShort s) :=
  congrArg _ (if_neg (by simp [h]))

/-- A break begins once, and not in CONFIG (R121). -/
theorem exec_breakDetected {s : State} (hc : s.ctl.state ≠ .config) (hb : s.line.observed ≠ some .brk) :
    exec .breakDetected s = .next
      (if s.line.attempt.isSome then failAttempt (raise .line (countBreak (observe .brk s)))
       else raise .line (countBreak (observe .brk s))) :=
  congrArg _ (if_pos (by simp [observesLine, hc, hb]))

/-- A break in progress begins no other (R121). -/
theorem exec_breakDetected_again {s : State} (hb : s.line.observed = some .brk) : exec .breakDetected s = .next s :=
  congrArg _ (if_neg (by simp [hb]))

theorem gapEndDue_gap {s : State} {n : Nat} (h : s.line.observed = some (.gap n)) :
    gapEndDue s = decide (12 ≤ n + (s.clock.osc - s.line.since) / bitTime s.ctl.rate) := by
  simp only [gapEndDue, h, gapCount, bitsSince, Config.gapBits]
  rfl

/-- A frame cut short has its first gap bit one bit time ahead (R114). -/
theorem endFrame_cutShort {s : State} (h : s.line.observed = some .frame) :
    endFrame true s = s.setLine
      { s.line with observed := some (.gap 1), since := s.clock.osc + bitTime s.ctl.rate } := by
  simp only [endFrame, h, if_true]

/-- Settles O19: each event of the line by the state observed before it. -/
theorem observedLineFollowsTheEvents : Obligations.ObservedLineFollowsTheEvents := by
  refine fun s => ⟨fun hrest => ?start, fun n hgap => ?gapEnd, fun hbrk => ?breakEnd, fun hin => ⟨?ended, ?cut⟩,
    fun hc hatt => ⟨fun hb => ?brk, exec_breakDetected_again⟩⟩
  case start =>
    have hat : atRest s = true := by
      rcases hrest with h | ⟨n, h⟩
      · simp [atRest, h]
      · simp [atRest, h]
    refine ⟨fun hst => ?_, fun hst => ?_⟩
    · rw [exec_frameStartEdge hat, if_pos (by simpa [checksFrames] using hst)]
      rfl
    · rw [exec_frameStartEdge hat, if_neg (by simp [checksFrames, hst])]
      rfl
  case gapEnd =>
    rw [exec_gapEnd, gapEndDue_gap hgap]
    simp only [decide_eq_true_eq]
    rfl
  case breakEnd => exact congrArg _ (if_pos hbrk)
  case ended => rw [exec_frameEnd hin.1, endFrame_inReception hin]
  case cut => rw [exec_frameEnd hin.1, endFrame_cutShort hin.2]
  case brk =>
    rw [exec_breakDetected hc hb, if_neg (by simp [hatt])]
    rfl

/-! ### Discarded and filtered frames (R125 to R127, R136, R137) -/

/-- A frame in reception is checked in JOINING and in MEMBER (R125). -/
theorem receiving_inReception {s : State} (h : inReception s) (hst : s.ctl.state = .joining ∨ s.ctl.state = .member) :
    receiving s = true := by
  simpa [receiving, checksFrames, h.1, h.2] using hst

theorem frameEnds_checked {s : State} (h : inReception s) (hst : s.ctl.state = .joining ∨ s.ctl.state = .member)
    (effect : State → State) : frameEnds effect s = effect (afterFrame s) := by
  simp [frameEnds, h.1, receiving_inReception h hst, endFrame_inReception h]

/-- FAULTED checks no frame: its end alone is seen (R125). -/
theorem frameEnds_faulted {s : State} (h : inReception s) (hst : s.ctl.state = .faulted) (effect : State → State) :
    frameEnds effect s = afterFrame s := by
  simp [frameEnds, h.1, receiving, checksFrames, hst, endFrame_inReception h]

theorem exec_crcError {s : State} (h : inReception s) (hst : s.ctl.state = .joining ∨ s.ctl.state = .member)
    (cause : CrcCause) : exec (.crcError cause) s = .next (countCrcError (endFrame (cause == .cutShort) s)) := by
  change Host.Outcome.next _ = _
  simp [h.1, receiving_inReception h hst]

theorem exec_crcError_faulted {s : State} (h : inReception s) (hst : s.ctl.state = .faulted) :
    exec (.crcError .mismatch) s = .next (afterFrame s) := by
  change Host.Outcome.next _ = _
  rw [show (CrcCause.mismatch == CrcCause.cutShort) = false from rfl, endFrame_inReception h]
  simp [h.1, receiving, checksFrames, hst]

/-- A frame with a destination of the right sort is received by its body (R128). -/
theorem exec_command {f : Frame} (hd : (f.dest.isNone == f.body.kind.broadcast) = true) :
    ∃ deliver, ∀ s, exec f.command s = .next (receiveFrame f.src f.body deliver s) := by
  obtain ⟨src, dest, body⟩ := f
  cases body with
  | sync => exact ⟨_, fun _ => rfl⟩
  | call => exact ⟨_, fun _ => rfl⟩
  | commit => exact ⟨_, fun _ => rfl⟩
  | abort => exact ⟨_, fun _ => rfl⟩
  | presence => exact ⟨_, fun _ => rfl⟩
  | reply => cases dest with | none => cases hd | some d => exact ⟨_, fun _ => rfl⟩
  | decision => cases dest with | none => cases hd | some d => exact ⟨_, fun _ => rfl⟩
  | stage => cases dest with | none => cases hd | some d => exact ⟨_, fun _ => rfl⟩
  | inquire => cases dest with | none => cases hd | some d => exact ⟨_, fun _ => rfl⟩
  | missed => cases dest with | none => cases hd | some d => exact ⟨_, fun _ => rfl⟩

/-- Settles O20: a discarded frame by its cause, where frames are checked and in FAULTED. -/
theorem discardedFramesCountAlone : Obligations.DiscardedFramesCountAlone := by
  refine fun s hin => ⟨fun hst => ⟨fun cause => ?crc, ?unknown, ?malformed, fun f hform hdest => ?illFormed⟩,
    fun hst => ⟨exec_crcError_faulted hin hst, ?unknownFaulted, ?malformedFaulted⟩⟩
  case crc =>
    refine ⟨_, exec_crcError hin hst cause, ?_⟩
    cases cause with
    | cutShort => rw [show (CrcCause.cutShort == CrcCause.cutShort) = true from rfl, endFrame_cutShort hin.2]; exact ⟨rfl, rfl, rfl⟩
    | framing => rw [show (CrcCause.framing == CrcCause.cutShort) = false from rfl, endFrame_inReception hin]; exact ⟨rfl, rfl, rfl⟩
    | mismatch => rw [show (CrcCause.mismatch == CrcCause.cutShort) = false from rfl, endFrame_inReception hin]; exact ⟨rfl, rfl, rfl⟩
  case unknown => exact congrArg _ (frameEnds_checked hin hst _)
  case malformed => exact congrArg _ (frameEnds_checked hin hst _)
  case illFormed =>
    obtain ⟨deliver, hexec⟩ := exec_command hdest
    rw [hexec, receiveFrame, frameEnds_checked hin hst]
    simp only [hform, Bool.not_false, if_true]
    exact (congrArg Host.Outcome.next (frameEnds_checked hin hst countMalformed)).symm
  case unknownFaulted => exact congrArg _ (frameEnds_faulted hin hst _)
  case malformedFaulted => exact congrArg _ (frameEnds_faulted hin hst _)

theorem formed_iff {f : Frame} :
    f.formed = true ↔ (f.dest.isNone == f.body.kind.broadcast) = true ∧ f.body.formed f.src = true :=
  Bool.and_eq_true_iff

/-- Settles O21: the station filter stops the frame in JOINING, and FAULTED checks none. -/
theorem stationFilterByState : Obligations.StationFilterByState := by
  intro s f hin hf hst
  obtain ⟨hdest, hform⟩ := formed_iff.mp hf
  obtain ⟨deliver, hexec⟩ := exec_command hdest
  rw [hexec, receiveFrame]
  rcases hst with ⟨hjoin, hkind⟩ | hfault
  · have hpass : passesFilter (afterFrame s) f.body.kind = false := by
      simpa [passesFilter, afterFrame, hjoin] using hkind
    rw [frameEnds_checked hin (.inl hjoin)]
    simp only [hform, hpass, Bool.not_true, Bool.not_false, Bool.false_eq_true, if_false, if_true]
  · rw [frameEnds_faulted hin hfault]

/-- Settles O22: entry to FAULTED after the frame's end, in the units' own values, with no attempt to abort. -/
theorem ownNumberMakesTheStationFaulted : Obligations.OwnNumberMakesTheStationFaulted := by
  intro s kind hin hst
  have hchecks : s.ctl.state = .joining ∨ s.ctl.state = .member := hst.elim .inr fun h => .inl h.1
  have hpass : passesFilter (afterFrame s) kind = true := by simpa [passesFilter, afterFrame] using hst
  have hown : exec (.ownNumberFrame kind) s = .next (enterFaulted (afterFrame s)) :=
    congrArg Host.Outcome.next ((frameEnds_checked hin hchecks _).trans
      (if_pos (t := enterFaulted (afterFrame s)) (e := afterFrame s) hpass))
  refine ⟨?_, fun f hf hsrc hkind => ?_⟩
  · have hatt : (afterFrame s).line.attempt = none := hin.1
    have habort : abortAttempt (afterFrame s) = afterFrame s := by simp only [abortAttempt, hatt]
    rw [hown, enterFaulted_eq, habort]
    rfl
  · obtain ⟨hdest, hform⟩ := formed_iff.mp hf
    obtain ⟨deliver, hexec⟩ := exec_command hdest
    have hnum : f.src = (afterFrame s).ctl.number := hsrc
    rw [hown, hexec, receiveFrame, frameEnds_checked hin hchecks]
    simp only [hform, hkind, hpass, Bool.not_true, Bool.false_eq_true, if_false]
    rw [if_pos hnum]

/-! ### The ends of attempts (R118, R119, R121, R122) -/

theorem exec_arbitrationLoss {s : State} {a : Attempt} (ha : s.line.attempt = some a) (bit : Fin 8) :
    exec (.arbitrationLoss bit) s =
      .next (if canLose s a bit then countArbitrationLoss (s.setLine { s.line with attempt := none }) else s) := by
  change Host.Outcome.next _ = _
  rw [ha]

theorem exec_bitError {s : State} (h : s.line.attempt.isSome = true) :
    exec .bitError s = .next (failAttempt (countBitError s)) :=
  congrArg _ (if_pos h)

/-- One of the first fifteen failures in a row (R122). -/
theorem failAttempt_below {s : State} (h : s.line.failures < 15) :
    failAttempt s = s.setLine { s.line with attempt := none, failures := s.line.failures + 1 } := by
  have hmin : min (s.line.failures + 1) Config.failureLimit = s.line.failures + 1 := by
    simp only [Config.failureLimit]; omega
  have hne : s.line.failures + 1 ≠ Config.failureLimit := by simp only [Config.failureLimit]; omega
  simp only [failAttempt, hmin, hne, if_false]

/-- The sixteenth failure in a row mutes the station (R122). -/
theorem failAttempt_sixteenth {s : State} (h : s.line.failures = 15) :
    failAttempt s = raise .line (countMute (s.setLine
      { s.line with attempt := none, failures := 16, mute := some 0 })) := by
  simp only [failAttempt, h]
  rfl

/-- Settles O37: each end of an attempt, a failure by the count of those before it. -/
theorem attemptsEndByLossOrFailure : Obligations.AttemptsEndByLossOrFailure := by
  intro s a ha
  have hsome : s.line.attempt.isSome = true := by rw [ha]; rfl
  refine ⟨fun bit hbit hnine => ?loss, ⟨fun hf => ?error, fun hf => ?lastError⟩,
    fun hc hb => ⟨fun hf => ?brk, fun hf => ?lastBreak⟩⟩
  case loss =>
    rw [exec_arbitrationLoss ha, if_pos (by simp only [canLose, bitsSince, hbit, hnine, decide_true, Bool.and_self])]
    rfl
  case error => rw [exec_bitError hsome, failAttempt_below (s := countBitError s) hf]; rfl
  case lastError => rw [exec_bitError hsome, failAttempt_sixteenth (s := countBitError s) hf]; rfl
  case brk =>
    rw [exec_breakDetected hc hb, if_pos hsome, failAttempt_below (s := raise .line (countBreak (observe .brk s))) hf]
    rfl
  case lastBreak =>
    rw [exec_breakDetected hc hb, if_pos hsome, failAttempt_sixteenth (s := raise .line (countBreak (observe .brk s))) hf]
    have hline (n : NoticeUnit) : ({ n with flags := n.flags ||| 2 ||| 2 } : NoticeUnit) = { n with flags := n.flags ||| 2 } := by
      rw [BitVec.or_assoc, BitVec.or_self]
    exact congrArg (fun n => Host.Outcome.next (State.setNotes _ n)) (hline s.notes)

/-! ### Mutes, reservations and reply slots (R122 to R124) -/

theorem exec_replySlotStart {s : State} {r : PendingReply} {replies : List PendingReply}
    (hfind : s.line.replies.find? (slotReached s) = some r) (herase : s.line.replies.eraseP (slotReached s) = replies) :
    exec .replySlotStart s = .next
      (if canReply s r then beginAttempt true r.frame (s.setLine { s.line with replies := replies })
       else s.setLine { s.line with replies := replies }) := by
  change Host.Outcome.next _ = _
  rw [hfind]
  simp only [herase]

/-- A REPLY goes out as it was handed over: nothing of it is filled at its start edge (R120). -/
theorem fillFrame_reply {f : Frame} (s : State) (h : f.body.kind = .reply) : fillFrame s f = f := by
  unfold fillFrame
  split
  next hb => rw [hb] at h; cases h
  next hb => rw [hb] at h; cases h
  next => rfl

/-- Settles O38: the ends by their instants, and a reply slot by the first pending REPLY that it reaches. -/
theorem mutesReservationsAndReplySlots : Obligations.MutesReservationsAndReplySlots := by
  refine fun s => ⟨fun t ht => ?mute, fun e he => ?reservation, fun hnone => ?noSlot,
    fun r earlier later hsplit hearlier hstart hkind => ?slot⟩
  case mute =>
    have hdue : muteEndDue s = decide (100000 ≤ t) := by
      simp only [muteEndDue, ht, Config.mutePeriod]
      rfl
    change Host.Outcome.next _ = _
    simp only [hdue, decide_eq_true_eq]
  case reservation =>
    have hdue : reservationEndDue s = decide (e ≤ s.clock.osc) := by simp only [reservationEndDue, he]
    change Host.Outcome.next _ = _
    simp only [hdue, decide_eq_true_eq]
  case noSlot =>
    have hfind : s.line.replies.find? (slotReached s) = none :=
      List.find?_eq_none.mpr fun r hr => by simpa [slotReached] using hnone r hr
    change Host.Outcome.next _ = _
    rw [hfind]
  case slot =>
    have hearly : ∀ x ∈ earlier, ¬ slotReached s x = true := fun x hx => by simpa [slotReached] using hearlier x hx
    have hnow : slotReached s r = true := by simp [slotReached, hstart]
    have hfind : s.line.replies.find? (slotReached s) = some r := by
      rw [hsplit, List.find?_append, List.find?_eq_none.mpr hearly, List.find?_cons_of_pos hnow]
      rfl
    have herase : s.line.replies.eraseP (slotReached s) = earlier ++ later := by
      rw [hsplit, List.eraseP_append_right _ hearly, List.eraseP_cons_of_pos hnow]
    rw [exec_replySlotStart hfind herase]
    refine ⟨fun ⟨hm, hmute, hatt, hidle⟩ => ?_, fun hbusy => ?_⟩
    · rw [if_pos (by simp [canReply, hstart, hm, hmute, hatt, hidle]), beginAttempt, fillFrame_reply _ hkind]
      rfl
    · refine congrArg _ (if_neg ?_)
      rcases hbusy with h | h | h | ⟨n, h⟩
      · simp [canReply, h]
      · simp [canReply, h]
      · simp [canReply, h]
      · simp [canReply, h]

end Sys2Proof.Machine


/-! PROOFS. Sending, the timers and one microsecond (R79, R81, R84, R92, R93, R106, R108, R113, R116, R117, R120). -/

namespace Sys2Proof.Machine

/-! ### The start of an attempt (R117, R120) -/

theorem reservationOpen_eq_false {s : State} :
    reservationOpen s = false ↔ ∀ e, s.line.reservation = some e → e ≤ s.clock.osc := by
  unfold reservationOpen
  split
  next e he => simp [he]
  next hn => simp [hn]

/-- The conditions of R117, one by one. -/
theorem attemptDue_iff {s : State} : attemptDue s = true ↔
    s.ctl.state = .member ∧ s.line.mute = none ∧ (∀ e, s.line.reservation = some e → e ≤ s.clock.osc) ∧
      s.line.queue ≠ [] ∧ s.line.attempt = none ∧ s.line.observed = some .idle ∧
      (s.clock.osc - s.line.since) % bitTime s.ctl.rate = 0 := by
  simp only [attemptDue, Bool.and_eq_true, beq_iff_eq, Option.isNone_iff_eq_none, Bool.not_eq_true',
    reservationOpen_eq_false, List.isEmpty_eq_false_iff, onBitBoundary, and_assoc]

theorem exec_attemptStart {s : State} {f : Frame} {rest : List Frame} (hq : s.line.queue = f :: rest) :
    exec .attemptStart s = .next (if attemptDue s then beginAttempt false f s else s) := by
  change Host.Outcome.next _ = _
  rw [hq]

/-! ### The bits of a frame on the line (R113) -/

/-- Bit k of characters on the line is bit k mod 10 of character k / 10. -/
theorem lineBits_getElem? (bs : List Byte) (k : Nat) :
    (lineBits bs)[k]? = bs[k / 10]?.bind fun b => (false :: (byteBits b ++ [true]))[k % 10]? := by
  induction bs generalizing k with
  | nil => rfl
  | cons b rest ih =>
    have hlen : (false :: (byteBits b ++ [true])).length = 10 := by simp [byteBits]
    have hcons : lineBits (b :: rest) = (false :: (byteBits b ++ [true])) ++ lineBits rest := rfl
    rw [hcons]
    by_cases hk : k < 10
    · rw [List.getElem?_append_left (by omega), Nat.div_eq_of_lt hk, Nat.mod_eq_of_lt hk]
      rfl
    · have hdiv : k / 10 = (k - 10) / 10 + 1 := by omega
      have hmod : k % 10 = (k - 10) % 10 := by omega
      rw [List.getElem?_append_right (by omega), hlen, ih, hdiv, hmod, List.getElem?_cons_succ]

/-- A character drives the line dominant in its start bit and in its data bits that are 0 (R113). -/
theorem characterBit_dominant (b : Byte) {j : Nat} (hj : j < 10) :
    (false :: (byteBits b ++ [true]))[j]? = some false ↔ j = 0 ∨ 1 ≤ j ∧ j ≤ 8 ∧ b.getLsbD (8 - j) = false := by
  have hlen : (byteBits b).length = 8 := by simp [byteBits]
  cases j with
  | zero => simp
  | succ k =>
    rw [List.getElem?_cons_succ]
    by_cases hk : k < 8
    · have hbit := byteBits_getD b ⟨k, hk⟩
      have hsub : 8 - (k + 1) = 7 - k := by omega
      simp only [List.getD_eq_getElem?_getD, List.getElem?_eq_getElem (hlen.symm ▸ hk), Option.getD_some] at hbit
      rw [List.getElem?_append_left (by omega), List.getElem?_eq_getElem (by omega), hbit, hsub]
      simp; omega
    · have hk8 : k = 8 := by omega
      subst hk8
      simp [hlen]

/-- A frame drives the line dominant in its bits that are 0, and not past its end. -/
theorem lineBits_dominant (bs : List Byte) (k : Nat) :
    (!(lineBits bs).getD k true) = true ↔
      ∃ ch, bs[k / 10]? = some ch ∧ (k % 10 = 0 ∨ 1 ≤ k % 10 ∧ k % 10 ≤ 8 ∧ ch.getLsbD (8 - k % 10) = false) := by
  have hbit : (!(lineBits bs).getD k true) = true ↔ (lineBits bs)[k]? = some false := by
    rw [List.getD_eq_getElem?_getD]
    cases (lineBits bs)[k]? with
    | none => simp
    | some b => cases b <;> simp
  rw [hbit, lineBits_getElem?, Option.bind_eq_some_iff]
  exact exists_congr fun ch => and_congr_right fun _ => characterBit_dominant ch (Nat.mod_lt k (by decide))

/-- With no attempt LTX is dominant until the end of an abort's drive (R116). -/
theorem ltxDominant_idle {s : State} (hr : s.ctl.resetting = false) (ha : s.line.attempt = none) :
    ltxDominant s = true ↔ ∃ e, s.line.driveUntil = some e ∧ s.clock.osc < e := by
  simp only [ltxDominant, hr, ha]
  cases s.line.driveUntil <;> simp

/-- With no drive under way LTX is dominant by the bits of the attempt's frame (R113). -/
theorem ltxDominant_attempt {s : State} {a : Attempt} (hr : s.ctl.resetting = false) (ha : s.line.attempt = some a)
    (hd : ∀ e, s.line.driveUntil = some e → e ≤ s.clock.osc) :
    ltxDominant s = !(lineBits (encodeFrame a.sent)).getD (bitsSince s a.start) true := by
  simp only [ltxDominant, hr, ha]
  cases he : s.line.driveUntil with
  | none => simp
  | some e => simp [Nat.not_lt.mpr (hd e he)]

/-- Settles O36: the start by R117's conditions, and the line by the bits of the frame or by the drive of an abort. -/
theorem attemptStartsUnderItsConditions : Obligations.AttemptStartsUnderItsConditions := by
  refine ⟨rfl, fun s f rest hq => ⟨fun hmay => ?may, fun hnot => ?mayNot⟩, fun s e hr ha he => ?drive,
    fun s hr hd => ⟨fun ha => ?idle, fun a ha => ?bits⟩⟩
  case may =>
    obtain ⟨hm, hmute, hres, hatt, hidle, hbit⟩ := hmay
    have hdue : attemptDue s = true := attemptDue_iff.mpr ⟨hm, hmute, hres, by simp [hq], hatt, hidle, hbit⟩
    rw [exec_attemptStart hq, if_pos hdue, beginAttempt, fillFrame, freeRecords_eq, freeSlots_eq]
    rfl
  case mayNot =>
    rw [exec_attemptStart hq, if_neg]
    intro hdue
    obtain ⟨hm, hmute, hres, -, hatt, hidle, hbit⟩ := attemptDue_iff.mp hdue
    exact hnot ⟨hm, hmute, hres, hatt, hidle, hbit⟩
  case drive => simp [ltxDominant_idle hr ha, he]
  case idle =>
    rw [← Bool.not_eq_true, ltxDominant_idle hr ha]
    rintro ⟨e, he, hlt⟩
    exact Nat.not_lt.mpr (hd e he) hlt
  case bits =>
    rw [ltxDominant_attempt hr ha hd]
    exact lineBits_dominant _ _

/-! ### A frame sent (R94, R108, R110, R120, R124) -/

theorem queueHasRoom_iff {s : State} : queueHasRoom s = true ↔ s.line.queue.length < 12 := decide_eq_true_iff

theorem queueHasRoom_full {s : State} (h : ¬ s.line.queue.length < 12) : queueHasRoom s = false :=
  Bool.eq_false_iff.mpr (mt queueHasRoom_iff.mp h)

/-- The report of a freed entry, in the words of R62. -/
theorem entryFreed_eq (s : State) : entryFreed s = offerWaiting s := by
  cases hact : s.prop.activity with
  | idle => simp only [entryFreed, offerWaiting, hact]
  | drafting d => simp only [entryFreed, offerWaiting, hact]
  | active p =>
    cases ho : p.outstanding with
    | none => simp only [entryFreed, offerWaiting, hact, ho]
    | some out =>
      obtain ⟨f, queued⟩ := out
      cases queued with
      | true => simp only [entryFreed, offerWaiting, hact, ho, if_true]
      | false =>
        simp only [entryFreed, offerWaiting, hact, ho, Bool.false_eq_true, if_false]
        rw [offerProposalFrame_active hact, offer_eq]
        by_cases hroom : s.line.queue.length < 12
        · have hq := queueHasRoom_iff.mpr hroom
          simp only [hq, hroom, if_true]
        · have hq := queueHasRoom_full hroom
          simp only [hq, hroom, Bool.false_eq_true, if_false]
          have hself : ({ p with outstanding := some { frame := f, queued := false } } : Proposal) = p := by rw [← ho]
          rw [hself]
          exact setProp_activity_self hact

/-- The last stop bit of an attempt has been completed. -/
theorem attemptEnd_le {s : State} {a : Attempt} (h : sentNow s a) : attemptEnd s a ≤ s.clock.osc := by
  obtain ⟨-, hend⟩ := h
  simpa only [attemptEnd, bits, Config.charBits, length_encodeFrame, Nat.mul_assoc] using hend

/-- FRAME_SENT of a frame that is not a COMMIT past its epoch. -/
theorem exec_frameSent {s : State} {a : Attempt} (h : sentNow s a) (hover : commitOverdue s a = false) :
    exec .frameSent s = .next
      (if a.reply then restartPresence (completeAttempt s) else queueFrameSent a.entry s) := by
  have hdue : frameSentDue s = true := by
    simp only [frameSentDue, h.1, decide_eq_true (attemptEnd_le h), hover, Bool.not_false, Bool.and_self]
  change Host.Outcome.next _ = _
  rw [hdue, h.1]
  rfl

theorem commitOverdue_of_kind {s : State} {a : Attempt} (h : a.entry.body.kind ≠ .commit) : commitOverdue s a = false := by
  simp [commitOverdue, h]

/-- What a completed frame of the queue leaves before its owner is told: its entry gone, the line free (R120). -/
theorem completeAttempt_line {s : State} (h : s.line.observed = some .frame) :
    completeAttempt s = s.setLine
      { s.line with attempt := none, failures := 0, observed := some (.gap 0), since := s.clock.osc } := by
  simp only [completeAttempt, endFrame, State.setLine_line, h]
  rfl

theorem queueFrameSent_eq {s : State} (h : s.line.observed = some .frame) (f : Frame) :
    queueFrameSent f s = offerWaiting (restartPresence (reportSent f (s.setLine (lineAfterSending s f)))) := by
  rw [queueFrameSent, completeAttempt_line h, entryFreed_eq]
  rfl

/-- FRAME_SENT of a frame of the queue, by the report to its owner. -/
theorem exec_frameSent_queued {s : State} {a : Attempt} (h : sentNow s a) (hobs : s.line.observed = some .frame)
    (hr : a.reply = false) (hk : a.entry.body.kind ≠ .commit) :
    exec .frameSent s = .next
      (offerWaiting (restartPresence (reportSent a.entry (s.setLine (lineAfterSending s a.entry))))) := by
  rw [exec_frameSent h (commitOverdue_of_kind hk), if_neg (by simp [hr]), queueFrameSent_eq hobs]

/-- Settles O39: each kind by its sent report. -/
theorem syncPresenceAndReplySent : Obligations.SyncPresenceAndReplySent := by
  intro s a h hobs
  refine ⟨fun t hr hb => ?_, fun lock records slots join hr hb => ?_, fun set outcome hr hb => ?_, fun hr => ?_⟩
  · rw [exec_frameSent_queued h hobs hr (by simp [hb, Body.kind]), reportSent, hb]
    rfl
  · rw [exec_frameSent_queued h hobs hr (by simp [hb, Body.kind]), reportSent, hb]
    rfl
  · rcases hb with hb | hb | hb
    · rw [exec_frameSent_queued h hobs hr (by simp [hb, Body.kind]), reportSent, hb]
      rfl
    · rw [exec_frameSent_queued h hobs hr (by simp [hb, Body.kind]), reportSent, hb]
      rfl
    · rw [exec_frameSent_queued h hobs hr (by simp [hb, Body.kind]), reportSent, hb]
      rfl
  · rw [exec_frameSent h (by simp [commitOverdue, hr]), if_pos hr, completeAttempt_line hobs]
    rfl

/-! ### The sync timer and the presence timer (R92, R108) -/

/-- A SYNC offered to a queue with room, and to a full one (R92, R115). -/
theorem offerSync_room {s : State} (h : s.line.queue.length < 12) :
    offerSync s = (s.setTime { s.time with ownSync := true }).setLine
      { s.line with queue := insertFrame { src := s.ctl.number, dest := none, body := .sync 0 } s.line.queue } := by
  rw [offerSync_eq, offer_accepted (queueHasRoom_iff.mpr h), queueHasRoom_iff.mpr h]
  rfl

theorem offerSync_full {s : State} (h : ¬ s.line.queue.length < 12) (hown : s.time.ownSync = false) : offerSync s = s := by
  rw [offerSync_eq, offer_refused (queueHasRoom_full h), queueHasRoom_full h, ← hown]
  rfl

/-- A PRESENCE offered to a queue with room, and to a full one (R108, R115). -/
theorem offerPresence_room {s : State} (hown : s.memb.ownPresence = false) (h : s.line.queue.length < 12) :
    offerPresence s = (s.setMemb { s.memb with ownPresence := true }).setLine
      { s.line with
        queue := insertFrame { src := s.ctl.number, dest := none, body := .presence .unlocked 0 0 (!s.memb.announced) }
          s.line.queue } := by
  rw [offerPresence_eq hown, offer_accepted (queueHasRoom_iff.mpr h), queueHasRoom_iff.mpr h]
  rfl

theorem offerPresence_full {s : State} (hown : s.memb.ownPresence = false) (h : ¬ s.line.queue.length < 12) :
    offerPresence s = s := by
  rw [offerPresence_eq hown, offer_refused (queueHasRoom_full h), queueHasRoom_full h, ← hown]
  rfl

theorem exec_syncTimerExpiry (s : State) : exec .syncTimerExpiry s = .next
    (if syncTimerDue s then
       if s.ctl.state = .member ∧ s.time.lock = .locked ∧ s.time.ownSync = false then
         offerSync (s.setTime { s.time with syncTimer := some 0 })
       else s.setTime { s.time with syncTimer := some 0 }
     else s) := rfl

theorem exec_presenceCheck (s : State) : exec .presenceCheck s = .next
    (if presenceDue s then offerPresence (s.setMemb { s.memb with presence := some 0 }) else s) := rfl

/-- Settles O47: each timer by its count, and the offer by the room in the queue. -/
theorem syncAndPresenceTimers : Obligations.SyncAndPresenceTimers := by
  refine fun s n => ⟨fun hn => ?sync, fun hn => ?presence⟩
  case sync =>
    have hdue : syncTimerDue s = true ↔ 100000 ≤ n := by
      simp only [syncTimerDue, hn]
      exact decide_eq_true_iff
    refine ⟨fun hlt => ?_, fun hle hnot => ?_, fun hle hsends => ?_⟩
    · rw [exec_syncTimerExpiry, if_neg (by rw [hdue]; omega)]
    · rw [exec_syncTimerExpiry, if_pos (hdue.mpr hle), if_neg hnot]
    · rw [exec_syncTimerExpiry, if_pos (hdue.mpr hle), if_pos hsends]
      by_cases hroom : s.line.queue.length < 12
      · rw [if_pos hroom, offerSync_room (s := s.setTime { s.time with syncTimer := some 0 }) hroom]
        rfl
      · rw [if_neg hroom, offerSync_full (s := s.setTime { s.time with syncTimer := some 0 }) hroom hsends.2.2]
  case presence =>
    have hdue : presenceDue s = true ↔ 100000 ≤ n := by
      simp only [presenceDue, hn]
      exact decide_eq_true_iff
    refine ⟨fun hlt => ?_, fun hle hown => ?_, fun hle hown => ?_⟩
    · rw [exec_presenceCheck, if_neg (by rw [hdue]; omega)]
    · rw [exec_presenceCheck, if_pos (hdue.mpr hle),
        offerPresence_outstanding (s := s.setMemb { s.memb with presence := some 0 }) hown]
    · rw [exec_presenceCheck, if_pos (hdue.mpr hle)]
      by_cases hroom : s.line.queue.length < 12
      · rw [if_pos hroom, offerPresence_room (s := s.setMemb { s.memb with presence := some 0 }) hown hroom]
        rfl
      · rw [if_neg hroom, offerPresence_full (s := s.setMemb { s.memb with presence := some 0 }) hown hroom]

/-! ### The membership interval (R106) -/

/-- What the interval's end makes of each entry, by its state and whether it was heard. -/
theorem endInterval_heard {e : MemberEntry} (hh : e.heard = true) (hs : e.state ≠ .self) :
    endInterval e = { e with heard := false } := by
  unfold endInterval
  split
  next => rw [if_pos hh]
  next => rfl
  next => rfl
  next h => exact absurd h hs

theorem fallsSilent_iff {e : MemberEntry} :
    fallsSilent e = true ↔ e.state = .present ∧ e.heard = false ∧ 2 ≤ e.missed := by
  simp [fallsSilent, Config.missedLimit, and_assoc]

theorem endInterval_silent {e : MemberEntry} (h : fallsSilent e = true) :
    endInterval e = { e with state := .silent, missed := 3, lock := none, records := none, slots := none } := by
  obtain ⟨hs, hh, -⟩ := fallsSilent_iff.mp h
  simp only [endInterval, hs, hh, h, Bool.false_eq_true, if_false, if_true]
  rfl

theorem endInterval_missed {e : MemberEntry} (hs : e.state = .present) (hh : e.heard = false) (hm : e.missed < 2) :
    endInterval e = { e with missed := e.missed + 1 } := by
  have hnot : fallsSilent e = false := by
    rw [← Bool.not_eq_true, fallsSilent_iff]
    omega
  simp only [endInterval, hs, hh, hnot, Bool.false_eq_true, if_false]

theorem endInterval_unheard {e : MemberEntry} (hs : e.state ≠ .present) (hh : e.heard = false) : endInterval e = e := by
  have hself : { e with heard := false } = e := by rw [← hh]
  unfold endInterval
  split
  next h => exact absurd h hs
  next => exact hself
  next => exact hself
  next => rfl

theorem exec_membershipIntervalEnd (s : State) : exec .membershipIntervalEnd s = .next
    (if intervalDue s then
       raiseIf (s.memb.entries.any fallsSilent) .member
         (s.setMemb { s.memb with entries := s.memb.entries.map endInterval, interval := some 0 })
     else s) := rfl

/-- Settles O49: the interval by its count, and each entry by what its end makes of it. -/
theorem membershipIntervalExaminesTheEntries : Obligations.MembershipIntervalExaminesTheEntries := by
  intro s n hn
  have hdue : intervalDue s = true ↔ 100000 ≤ n := by
    simp only [intervalDue, hn]
    exact decide_eq_true_iff
  refine ⟨fun hlt => ?_, fun hle => ?_⟩
  · rw [exec_membershipIntervalEnd, if_neg (by rw [hdue]; omega)]
  · have hany : s.memb.entries.any fallsSilent = true ↔ ∃ st : Station, fallsSilent s.memb.entries[st] = true := by
      simp only [Vector.any_eq_true, Fin.getElem_fin]
      exact ⟨fun ⟨i, hi, h⟩ => ⟨⟨i, hi⟩, h⟩, fun ⟨st, h⟩ => ⟨st.val, st.isLt, h⟩⟩
    have hentry (st : Station) : (raiseIf (s.memb.entries.any fallsSilent) .member
        (s.setMemb { s.memb with entries := s.memb.entries.map endInterval, interval := some 0 })).memb.entries[st] =
          endInterval s.memb.entries[st] := by
      rw [raiseIf_frame]
      simp
    refine ⟨_, by rw [exec_membershipIntervalEnd, if_pos (hdue.mpr hle)], ?_, fun st => ⟨fun ⟨hh, hs⟩ => ?_, fun hh =>
      ⟨fun hsil => ?_, fun hs hm => ?_, fun hs => ?_⟩⟩, fun ⟨st, hsil⟩ => ?_, fun hnone => ?_⟩
    · rw [raiseIf_frame]; rfl
    · rw [hentry, endInterval_heard hh hs]
    · rw [hentry, endInterval_silent (fallsSilent_iff.mpr hsil)]
    · rw [hentry, endInterval_missed hs hh hm]
    · rw [hentry, endInterval_unheard hs hh]
    · rw [hany.mpr ⟨st, fallsSilent_iff.mpr hsil⟩]; rfl
    · have hno : s.memb.entries.any fallsSilent = false := by
        rw [← Bool.not_eq_true, hany]
        rintro ⟨st, h⟩
        exact hnone st (fallsSilent_iff.mp h)
      rw [hno]; rfl

/-! ### One microsecond (R79, R81, R84) -/

/-- The last piece ends a slew (R84). -/
theorem afterPiece_eq {sl : Slew} (h : SlewSound sl) :
    afterPiece sl =
      if sl.remaining.natAbs = 1 then none
      else some { sl with remaining := sl.remaining - sl.offset.sign, progress := sl.progress + 1 } := by
  obtain ⟨hne, hsign, -, -⟩ := h
  have hlast : sl.remaining - sl.offset.sign = 0 ↔ sl.remaining.natAbs = 1 := by
    rw [← hsign]
    rcases lt_trichotomy sl.remaining 0 with hr | hr | hr
    · rw [Int.sign_eq_neg_one_of_neg hr]; omega
    · exact absurd hr hne
    · rw [Int.sign_eq_one_of_pos hr]; omega
  simp only [afterPiece, hlast]

/-- SLEW_PIECE by whether one is due. -/
theorem exec_slewPiece_due {s : State} {sl : Slew} (h : slewPieceDue s = some sl) :
    exec .slewPiece s = .next (pieceMicro sl s) := by
  change Host.Outcome.next _ = _
  rw [h]

theorem exec_slewPiece_idle {s : State} (h : slewPieceDue s = none) : exec .slewPiece s = .next s := by
  change Host.Outcome.next _ = _
  rw [h]

theorem pieceDue_iff {sl : Slew} : pieceDue sl = true ↔
    (sl.offset.natAbs - sl.remaining.natAbs + 1) * 100000 / sl.offset.natAbs ≤ sl.progress + 1 := decide_eq_true_iff

/-- Settles O48: a microsecond without a piece and with one, whose due point is R84's. -/
theorem slewPiecesMoveTime : Obligations.SlewPiecesMoveTime := by
  refine fun s => ⟨fun hnone => ⟨?_, exec_slewPiece_idle ?_⟩, fun sl hsl hsound =>
    ⟨?_, fun hdue hpoint => ⟨fun hpos => ?_, fun hneg => ?_⟩, fun hnot => exec_slewPiece_idle ?_⟩⟩
  · rw [plainMicro, hnone]; rfl
  · simp [slewPieceDue, hnone]
  · rw [plainMicro, hsl]; rfl
  · have hpiece : slewPieceDue s = some sl := by simp [slewPieceDue, hdue, hsl, pieceDue_iff.mpr hpoint]
    rw [exec_slewPiece_due hpiece, pieceMicro, if_pos hpos, afterPiece_eq hsound]
    rfl
  · have hpiece : slewPieceDue s = some sl := by simp [slewPieceDue, hdue, hsl, pieceDue_iff.mpr hpoint]
    rw [exec_slewPiece_due hpiece, pieceMicro, if_neg (by omega), afterPiece_eq hsound]
    rfl
  · unfold slewPieceDue
    split
    next hdue =>
      rcases hnot with h | h
      · rw [hdue] at h; cases h
      · have hpoint : pieceDue sl = false := by rw [← Bool.not_eq_true, pieceDue_iff]; omega
        rw [hsl, Option.filter_some, hpoint]
        rfl
    next => rfl

end Sys2Proof.Machine


/-! PROOFS. The acts that are due at an instant, each by its event's own condition, and what an idle step takes of them. -/

namespace Sys2Proof.Machine

/-! ### The conditions of the events (logs 3, 8, 21, 26, 35) -/

theorem reached_iff {now t : NetTime} : reached now t = true ↔ 0 ≤ sdiff now t := decide_eq_true_iff

theorem slewPieceDue_isSome {s : State} : (slewPieceDue s).isSome = true ↔ eventDue s .slewPiece := by
  delta eventDue
  dsimp only
  cases hdue : s.clock.microDue with
  | false => simp [slewPieceDue, hdue]
  | true =>
    cases hs : s.time.slew with
    | none => simp [slewPieceDue, hdue, hs]
    | some sl =>
      simp only [slewPieceDue, hdue, hs, if_true, Option.filter_some, true_and, Option.some.injEq, exists_eq_left',
        ← pieceDue_iff]
      split <;> simp_all

/-- A timer that runs has counted to a limit. -/
theorem counted_iff {o : Option Nat} {limit : Nat} :
    (match o with
      | some t => decide (limit ≤ t)
      | none => false) = true ↔ ∃ n, o = some n ∧ limit ≤ n := by
  cases o with
  | none => simp
  | some t => simp

theorem muteEndDue_iff {s : State} : muteEndDue s = true ↔ eventDue s .muteEnd :=
  counted_iff (o := s.line.mute) (limit := Config.mutePeriod)

theorem replySlotDue_iff {s : State} : replySlotDue s = true ↔ eventDue s .replySlotStart := by
  delta eventDue
  dsimp only
  simp [replySlotDue, slotReached]

theorem reservationEndDue_iff {s : State} : reservationEndDue s = true ↔ eventDue s .reservationEnd := by
  delta eventDue
  dsimp only
  cases h : s.line.reservation <;> simp [reservationEndDue, h]

theorem windowDue_iff {s : State} : windowDue s = true ↔ eventDue s .windowEnd := by
  delta eventDue
  dsimp only
  cases h : s.prop.activity with
  | idle => simp [windowDue, h]
  | drafting d => simp [windowDue, h]
  | active p => cases hw : p.windowEnd <;> simp [windowDue, h, hw]

theorem proposerEpochDue_iff {s : State} : proposerEpochDue s = true ↔ meetsEpoch s := by
  cases h : s.prop.activity with
  | idle => simp [proposerEpochDue, meetsEpoch, h]
  | drafting d => simp [proposerEpochDue, meetsEpoch, h]
  | active p => cases hp : p.phase <;> simp [proposerEpochDue, meetsEpoch, endsPhase, h, hp, reached_iff]

theorem frameSentDue_iff {s : State} : frameSentDue s = true ↔ eventDue s .frameSent := by
  delta eventDue
  dsimp only
  cases h : s.line.attempt with
  | none => simp [frameSentDue, sentNow, h]
  | some a =>
    have hend : attemptEnd s a ≤ s.clock.osc ↔ sentNow s a := by
      simp only [attemptEnd, bits, Config.charBits, length_encodeFrame, sentNow, h, true_and]
    have hover : commitOverdue s a = true ↔ a.reply = false ∧ a.entry.body.kind = .commit ∧ meetsEpoch s := by
      simp [commitOverdue, proposerEpochDue_iff, and_assoc]
    have hdue : frameSentDue s = true ↔ sentNow s a ∧ ¬ commitOverdue s a = true := by
      simp [frameSentDue, h, hend]
    rw [hdue, hover]
    refine ⟨fun hs => ⟨a, hs⟩, fun ⟨b, hb, hnot⟩ => ?_⟩
    obtain rfl : a = b := Option.some.inj (h.symm.trans hb.1)
    exact ⟨hb, hnot⟩

theorem supervisionNext_isSome {s : State} : (supervisionNext s).isSome = true ↔ eventDue s .supervisionExpiry := by
  delta eventDue
  dsimp only
  have hlimit (p : Prop) [Decidable p] (l : LockState) : (if p then some l else none).isSome = true ↔ p := by
    split <;> simp_all
  cases hs : s.time.supervision with
  | none => cases hl : s.time.lock <;> simp [supervisionNext, hs, hl]
  | some n =>
    cases hl : s.time.lock with
    | locked => simp only [supervisionNext, hs, hl, hlimit]; simp; rfl
    | holdover => simp only [supervisionNext, hs, hl, hlimit]; simp; rfl
    | acquiring => simp only [supervisionNext, hs, hl, hlimit]; simp; rfl
    | unlocked => simp [supervisionNext, hs, hl]

theorem selfSourceDue_iff {s : State} : selfSourceDue s = true ↔ eventDue s .selfSource := by
  have hcount := counted_iff (o := s.time.selfSource) (limit := Config.selfSourceAfter)
  have hstate : canSelfSource s = true ↔ s.ctl.state = .joining ∨ s.ctl.state = .member := by simp [canSelfSource]
  unfold selfSourceDue
  rw [Bool.and_eq_true, Bool.and_eq_true, hstate, beq_iff_eq, and_assoc]
  exact and_congr_right fun _ => and_congr_right fun _ => hcount

theorem syncTimerDue_iff {s : State} : syncTimerDue s = true ↔ eventDue s .syncTimerExpiry :=
  counted_iff (o := s.time.syncTimer) (limit := Config.syncPeriod)

theorem intervalDue_iff {s : State} : intervalDue s = true ↔ eventDue s .membershipIntervalEnd :=
  counted_iff (o := s.memb.interval) (limit := Config.memberInterval)

theorem presenceDue_iff {s : State} : presenceDue s = true ↔ eventDue s .presenceCheck :=
  counted_iff (o := s.memb.presence) (limit := Config.presencePeriod)

theorem swapDue_iff {s : State} {c : Fin 16} : swapDue s c = true ↔ eventDue s (.swapComplete c) := by
  delta eventDue
  dsimp only
  simp only [swapDue]
  cases s.chans[c].pending <;> simp [reached_iff]

theorem timerReached_iff {s : State} {r : SetRecord} {n : Nat} :
    timerReached s r n = true ↔ ∃ start, r.timer = some start ∧ start + n * bitTime s.ctl.rate ≤ s.clock.osc := by
  cases h : r.timer with
  | none => simp [timerReached, h]
  | some start => simp only [timerReached, h, Option.some.injEq, exists_eq_left']; exact decide_eq_true_iff

theorem epochReached_iff {s : State} {r : SetRecord} :
    epochReached s r = true ↔ ∃ e, r.epoch = some e ∧ 0 ≤ sdiff s.time.now e := by
  cases h : r.epoch <;> simp [epochReached, reached_iff, h]

theorem awaitsDecision_iff {r : SetRecord} : awaitsDecision r = true ↔ undecided r := by
  simp [awaitsDecision, undecided]

theorem staleDue_iff {s : State} {i : Fin 4} : staleDue s i = true ↔ eventDue s (.staleTimeout i) := by
  delta eventDue
  dsimp only
  simp only [staleDue, holdsRecord_iff, Bool.and_eq_true, beq_iff_eq, Bool.not_eq_true', timerReached_iff, waited,
    Config.staleBits]
  exact exists_congr fun r => ⟨fun ⟨hi, ⟨hst, hself⟩, start, ht⟩ => ⟨start, hi, hst, hself, ht⟩,
    fun ⟨start, hi, hst, hself, ht⟩ => ⟨hi, ⟨hst, hself⟩, start, ht⟩⟩

theorem decisionDue_iff {s : State} {i : Fin 4} : decisionDue s i = true ↔ eventDue s (.decisionTimeout i) := by
  delta eventDue
  dsimp only
  simp only [decisionDue, holdsRecord_iff, Bool.and_eq_true, beq_iff_eq, Bool.not_eq_true', timerReached_iff, waited,
    Config.decisionBits]
  exact exists_congr fun r => ⟨fun ⟨hi, ⟨hst, hself⟩, start, ht⟩ => ⟨start, hi, hst, hself, ht⟩,
    fun ⟨start, hi, hst, hself, ht⟩ => ⟨hi, ⟨hst, hself⟩, start, ht⟩⟩

theorem inquiryDue_iff {s : State} {i : Fin 4} : inquiryDue s i = true ↔ eventDue s (.inquiryTimer i) := by
  delta eventDue
  dsimp only
  simp only [inquiryDue, holdsRecord_iff, Bool.and_eq_true, beq_iff_eq, decide_eq_true_iff, timerReached_iff, waited,
    Config.decisionBits]
  exact exists_congr fun r => ⟨fun ⟨hi, ⟨hst, hself⟩, start, ht⟩ => ⟨start, hi, hst, hself, ht⟩,
    fun ⟨start, hi, hst, hself, ht⟩ => ⟨hi, ⟨hst, hself⟩, start, ht⟩⟩

/-- A record at its epoch, in the model's test and in R42's words. -/
theorem holdsRecord_epoch_iff {s : State} {i : Fin 4} {which : SetRecord → Bool} {P : SetRecord → Prop}
    (h : ∀ r, which r = true ↔ P r ∧ epochReached s r = true) : holdsRecord which s i = true ↔ atEpoch s i P := by
  simp only [holdsRecord_iff, h, epochReached_iff, atEpoch]
  exact exists_congr fun r => ⟨fun ⟨hi, hP, e, he, hle⟩ => ⟨e, hi, he, hP, hle⟩,
    fun ⟨e, hi, he, hP, hle⟩ => ⟨hi, hP, e, he, hle⟩⟩

theorem applyDue_iff {s : State} {i : Fin 4} : applyDue s i = true ↔ eventDue s (.epochApply i) :=
  holdsRecord_epoch_iff fun r => by simp

theorem expiryDue_iff {s : State} {i : Fin 4} : expiryDue s i = true ↔ eventDue s (.epochExpiry i) :=
  holdsRecord_epoch_iff fun r => by simp [awaitsDecision_iff]

theorem selfExpiryDue_iff {s : State} {i : Fin 4} : selfExpiryDue s i = true ↔ eventDue s (.selfRecordEpoch i) :=
  holdsRecord_epoch_iff fun r => by simp [awaitsDecision_iff]

theorem sampleOpen_iff {s : State} : sampleOpen s = true ↔ sampleStands s := by
  cases h : s.capt.lastSample with
  | none => simp [sampleOpen, sampleStands, h]
  | some p =>
    simp only [sampleOpen, sampleStands, h, Bool.or_eq_true, bne_iff_ne, beq_iff_eq, Option.some.injEq, forall_eq']
    rfl

theorem edgeOf_isSome {ref : Option Level} {level : Level} :
    (edgeOf ref level).isSome = true ↔ ∃ before, ref = some before ∧ before ≠ level := by
  cases ref with
  | none => simp [edgeOf]
  | some r => by_cases h : r = level <;> simp [edgeOf, h]

theorem sampleDue_iff {s : State} {i : Fin 8} :
    sampleDue s i = true ↔ s.ctl.state ≠ .config ∧
      (∃ before, s.capt.refs[i] = some before ∧ before ≠ s.capt.pins[i]) ∧ s.capt.sampled[i] ≠ some (s.clock.osc / 2) ∧
        sampleStands s := by
  rw [← edgeOf_isSome, ← sampleOpen_iff]
  unfold sampleDue shownEdge
  split
  next h =>
    simp only [Bool.and_eq_true, captureActive, unsampled, bne_iff_ne] at h
    obtain ⟨⟨hst, hopen⟩, huns⟩ := h
    exact ⟨fun he => ⟨hst, he, huns, hopen⟩, fun he => he.2.1⟩
  next h =>
    simp only [Bool.and_eq_true, captureActive, unsampled, bne_iff_ne] at h
    refine ⟨fun he => (by cases he), fun he => ?_⟩
    obtain ⟨hst, -, huns, hopen⟩ := he
    exact absurd ⟨⟨hst, hopen⟩, huns⟩ h

/-! ### The acts that are due -/

theorem mem_positions (i : Fin 4) : i ∈ positions := by fin_cases i <;> decide

theorem mem_microAct_event {s : State} {i : Instr} :
    Act.event i ∈ microAct s ↔ i = .slewPiece ∧ eventDue s .slewPiece := by
  have hdue : eventDue s .slewPiece → s.clock.microDue = true := fun h => h.1
  unfold microAct
  split
  next hm =>
    rw [← slewPieceDue_isSome]
    split <;> simp_all
  next hm =>
    refine ⟨fun h => (by cases h), fun h => ?_⟩
    exact absurd (hdue h.2) hm

theorem mem_microAct_micro {s : State} :
    Act.micro ∈ microAct s ↔ s.clock.microDue = true ∧ ¬ eventDue s .slewPiece := by
  unfold microAct
  rw [← slewPieceDue_isSome]
  split
  next hm => split <;> simp_all
  next hm => simp [hm]

/-- The acts of one instant, gap and attempt apart, are the events whose conditions hold. -/
theorem mem_openActs_event {s : State} {i : Instr} : Act.event i ∈ openActs s ↔ eventDue s i := by
  simp only [openActs, recordActs, List.mem_append, List.mem_flatMap, List.mem_finRange, mem_positions, true_and, mem_dueIf,
    mem_microAct_event, muteEndDue_iff, replySlotDue_iff, reservationEndDue_iff, windowDue_iff, frameSentDue_iff,
    supervisionNext_isSome, selfSourceDue_iff, syncTimerDue_iff, staleDue_iff, decisionDue_iff, inquiryDue_iff, applyDue_iff,
    expiryDue_iff, selfExpiryDue_iff, proposerEpochDue_iff, swapDue_iff, intervalDue_iff, presenceDue_iff, sampleDue_iff]
  cases i
  case captureEdge input level =>
    simp only [reduceCtorEq, and_false, false_and, exists_false, or_false, false_or, Instr.captureEdge.injEq]
    refine ⟨fun ⟨j, h, hj, hl⟩ => ?_, fun h => ?_⟩
    · obtain rfl := hj
      obtain ⟨hst, hedge, hrest⟩ := h
      exact ⟨hst, hl, hl ▸ hedge, hrest⟩
    · obtain ⟨hst, hl, hedge, hrest⟩ := h
      exact ⟨input, ⟨hst, hl ▸ hedge, hrest⟩, rfl, hl⟩
  case proposerEpoch => simp; exact Iff.rfl
  all_goals simp
  all_goals exact id

theorem mem_openActs_micro {s : State} : Act.micro ∈ openActs s ↔ s.clock.microDue = true ∧ ¬ eventDue s .slewPiece := by
  have hevent (b : Bool) (i : Instr) : Act.micro ∉ dueIf b i := by cases b <;> simp [dueIf]
  rw [← mem_microAct_micro]
  simp [openActs, recordActs, hevent]

/-- No act is due at an instant exactly when no microsecond is and no event's condition holds. -/
theorem openActs_eq_nil {s : State} : openActs s = [] ↔ s.clock.microDue = false ∧ ∀ i, ¬ eventDue s i := by
  rw [List.eq_nil_iff_forall_not_mem]
  refine ⟨fun h => ⟨?_, fun i hi => h _ (mem_openActs_event.mpr hi)⟩, fun ⟨hm, hi⟩ a ha => ?_⟩
  · by_contra hm
    exact h .micro (mem_openActs_micro.mpr ⟨Bool.of_not_eq_false hm, fun hi => h _ (mem_openActs_event.mpr hi)⟩)
  · cases a with
    | event i => exact hi i (mem_openActs_event.mp ha)
    | micro => rw [(mem_openActs_micro.mp ha).1] at hm; cases hm

theorem gapEndDue_iff {s : State} : gapEndDue s = true ↔
    ∃ n, s.line.observed = some (.gap n) ∧ 12 ≤ n + (s.clock.osc - s.line.since) / bitTime s.ctl.rate := by
  refine ⟨fun h => ?_, fun ⟨n, hn, hle⟩ => (gapEndDue_gap hn).trans (decide_eq_true hle)⟩
  unfold gapEndDue at h
  split at h
  next n hn => exact ⟨n, hn, of_decide_eq_true h⟩
  next => cases h

/-- Where no gap ends, the open acts are taken before the start of an attempt (log 3). -/
theorem mem_dueActs {s : State} (h : gapEndDue s = false) {a : Act} :
    a ∈ dueActs s ↔ a ∈ openActs s ∨ openActs s = [] ∧ attemptDue s = true ∧ a = .event .attemptStart := by
  unfold dueActs
  rw [h, if_neg Bool.false_ne_true]
  split
  next hnil => cases hatt : attemptDue s <;> simp [dueIf, hnil]
  next hne => exact (or_iff_left fun ⟨hnil, _, _⟩ => hne hnil).symm

/-! ### The idle step (logs 3 and 4) -/

theorem step_idle {s : State} (h : s.pending = []) : step s = autoStep s := by
  simp only [step, h]

/-- With several acts due one of them is taken, and the choice counted (log 4). -/
theorem chooseAct_several {s : State} (h : 2 ≤ (dueActs s).length) :
    ∃ a ∈ dueActs s, chooseAct s = some (a, countChoice s) := by
  have hchosen : ∃ a, chooseAct s = some (a, countChoice s) := by
    unfold chooseAct
    split
    next hnil => simp [hnil] at h
    next a hone => simp [hone] at h
    next a rest => exact ⟨_, rfl⟩
  obtain ⟨a, ha⟩ := hchosen
  exact ⟨a, (chooseAct_some ha).1, ha⟩

/-- Settles O2: the idle step by the acts that are due, and each act by its event's condition. -/
theorem idleStepTakesADueActOrTicks : Obligations.IdleStepTakesADueActOrTicks := by
  refine ⟨fun s hp => ⟨fun hnone => ?tick, fun i hone => ?event, fun hone => ?micro, fun hmany => ?several⟩,
    fun s => ⟨fun hgap => ?gap, fun hgap => ⟨fun i hi => ?due, ?dueMicro, ?attempt⟩⟩⟩
  case tick => rw [step_idle hp, autoStep, chooseAct, hnone]; rfl
  case event => rw [step_idle hp, autoStep, chooseAct, hone]
  case micro => rw [step_idle hp, autoStep, chooseAct, hone]
  case several =>
    obtain ⟨a, ha, hchoose⟩ := chooseAct_several hmany
    refine ⟨a, ha, ?_⟩
    rw [step_idle hp, autoStep, hchoose]
    cases a <;> rfl
  case gap => rw [dueActs, gapEndDue_iff.mpr hgap]; rfl
  all_goals
    have hnot : gapEndDue s = false := Bool.eq_false_iff.mpr (mt gapEndDue_iff.mp hgap)
    rw [mem_dueActs hnot]
  case due =>
    rw [mem_openActs_event]
    exact or_iff_left fun ⟨_, _, h⟩ => hi (Act.event.inj h)
  case dueMicro =>
    rw [mem_openActs_micro]
    exact or_iff_left fun ⟨_, _, h⟩ => by cases h
  case attempt =>
    have hno : ¬ eventDue s .attemptStart := id
    rw [mem_openActs_event, openActs_eq_nil, attemptDue_iff, or_iff_right hno]
    exact ⟨fun ⟨hopen, hatt, _⟩ => ⟨hatt, hopen⟩, fun ⟨hatt, hopen⟩ => ⟨hopen, hatt, rfl⟩⟩

end Sys2Proof.Machine


/-! PROOFS. A SYNC taken, self-source and the first lock (R83 to R87, R90, R159). -/

namespace Sys2Proof.Machine

/-! ### A withdrawn frame, with no attempt on the line -/

theorem lineWithout_idle {s : State} (h : s.line.attempt = none) (which : Frame → Bool) :
    lineWithout which s = { s.line with queue := s.line.queue.eraseP which } := by
  simp only [lineWithout, attemptMatches, h, Bool.false_eq_true, if_false]

/-- With no attempt in progress the own SYNC is withdrawn from the queue alone (R87). -/
theorem withdrawSync_idle {s : State} (h : s.line.attempt = none) : withdrawSync s = withoutOwnSync s := by
  unfold withdrawSync withoutOwnSync
  split
  next =>
    rw [withdrawFrame_eq, State.setTime_line, lineWithout_idle (s := s.setTime { s.time with ownSync := false }) h,
      entryFreed_eq]
    split
    next => rfl
    next hno =>
      have hall : ∀ f ∈ s.line.queue, ¬ isSync f = true := by simpa using hno
      rw [List.eraseP_of_forall_not hall]
      rfl
  next => rfl

/-! ### What the delivery of a frame leaves (R102, R114) -/

@[simp] theorem delivered_ctl (src : Station) (s : State) : (delivered src s).ctl = s.ctl := rfl
@[simp] theorem delivered_part (src : Station) (s : State) : (delivered src s).part = s.part := rfl
@[simp] theorem delivered_prop (src : Station) (s : State) : (delivered src s).prop = s.prop := rfl
@[simp] theorem delivered_time (src : Station) (s : State) : (delivered src s).time = s.time := rfl
@[simp] theorem delivered_chans (src : Station) (s : State) : (delivered src s).chans = s.chans := rfl
@[simp] theorem delivered_capt (src : Station) (s : State) : (delivered src s).capt = s.capt := rfl
@[simp] theorem delivered_port (src : Station) (s : State) : (delivered src s).port = s.port := rfl
@[simp] theorem delivered_clock (src : Station) (s : State) : (delivered src s).clock = s.clock := rfl
@[simp] theorem delivered_pending (src : Station) (s : State) : (delivered src s).pending = s.pending := rfl
@[simp] theorem delivered_line (src : Station) (s : State) : (delivered src s).line = (afterFrame s).line := rfl
@[simp] theorem delivered_memb (src : Station) (s : State) : (delivered src s).memb = (heardFrom src s).memb := rfl

/-! ### Notices raised on the way (R174) -/

theorem raisesOnly_trans {ns : List Notice} {s t u : State} (h : raisesOnly ns s t) (h' : raisesOnly ns t u) :
    raisesOnly ns s u := fun n hn => (h' n hn).trans (h n hn)

theorem raisesOnly_mono {ns ms : List Notice} {s t : State} (h : raisesOnly ns s t) (hsub : ∀ n ∈ ns, n ∈ ms) :
    raisesOnly ms s t := fun n hn => h n fun hmem => hn (hsub n hmem)

/-- Where the Notice Unit and the Capture Unit stay, every notice does. -/
theorem raisesOnly_congr {s t : State} (ns : List Notice) (hnotes : t.notes = s.notes) (hcapt : t.capt = s.capt) :
    raisesOnly ns s t := fun n _ => isPending_congr hnotes hcapt n

theorem isPending_raise_self {n : Notice} (h : n ≠ .capture) (s : State) : isPending n (raise n s) = true :=
  isPending_raised h rfl rfl

theorem raisesOnly_raise_self (n : Notice) (s : State) : raisesOnly [n] s (raise n s) := raisesOnly_raise rfl rfl

theorem raisesOnly_raiseIf (b : Bool) (n : Notice) (s : State) : raisesOnly [n] s (raiseIf b n s) := by
  cases b with
  | true => exact raisesOnly_raise_self n s
  | false => exact raisesOnly_congr _ rfl rfl

/-- A frame heard raises MEMBER alone (R102). -/
theorem raisesOnly_delivered (src : Station) (s : State) : raisesOnly [.member] s (delivered src s) := by
  rw [delivered, ← hear_eq]
  exact raisesOnly_trans (raisesOnly_congr _ rfl rfl) (raisesOnly_raiseIf _ _ _)

/-! ### A SYNC taken (R83 to R87) -/

/-- A SYNC of another station that the station filter passes is taken against the start-edge sample (R83, R127). -/
theorem exec_sync {s : State} {src : Station} {sample : NetTime} (hst : s.ctl.state = .member ∨ s.ctl.state = .joining)
    (hin : inReception s) (hsrc : src ≠ s.ctl.number) (hsample : s.time.sample = some sample) (time : NetTime) :
    exec (.sync src time) s = .next (takeSync time sample (delivered src s)) := by
  have hpass : passesFilter (afterFrame s) .sync = true := by simpa [passesFilter, afterFrame] using hst
  have hform : Body.formed src (.sync time) = true := rfl
  change Host.Outcome.next (receiveFrame _ _ _ s) = _
  rw [receiveFrame, frameEnds_checked hin hst.symm]
  have hkind : (Body.sync time).kind = .sync := rfl
  simp only [hform, hkind, hpass, Bool.not_true, Bool.false_eq_true, if_false, hear_eq]
  rw [if_neg (show ¬ src = (afterFrame s).ctl.number from hsrc)]
  change Host.Outcome.next (match s.time.sample with | some sample => _ | none => _) = _
  rw [hsample]
  rfl

theorem lockAfterSync_eq (l : LockState) (slewed : Bool) : lockAfterSync l slewed = lockTable l slewed := by
  cases l <;> cases slewed <;> rfl

/-- A change of lock without a block that reacts: LOCK is raised (R91). -/
theorem setLock_quiet {l : LockState} {s : State} (hun : l ≠ .unlocked) (hfrom : s.time.lock = .locked → l = .locked)
    (hjoin : l = .locked → s.ctl.state ≠ .joining) :
    setLock l s = if l = s.time.lock then s else raise .lock (s.setTime { s.time with lock := l }) := by
  unfold setLock
  by_cases h : s.time.lock = l
  · rw [if_pos h, if_pos h.symm]
  · have hlocked : s.time.lock ≠ .locked := fun hl => h (hl.trans (hfrom hl).symm)
    rw [if_neg h, if_neg (Ne.symm h)]
    simp only [if_neg hlocked]
    cases l with
    | unlocked => exact absurd rfl hun
    | locked => exact if_neg (hjoin rfl)
    | acquiring => rfl
    | holdover => rfl

/-- After a SYNC's correction the timers restart, the own SYNC goes and the lock follows (R86, R87). -/
theorem syncTaken_eq {s : State} {l : LockState} (hatt : s.line.attempt = none) (hun : l ≠ .unlocked)
    (hfrom : s.time.lock = .locked → l = .locked) (hjoin : l = .locked → s.ctl.state ≠ .joining) :
    setLock l (withdrawSync (restartSyncTimers s)) =
      if l = s.time.lock then withoutOwnSync ((restartSyncTimers s).setTime { (restartSyncTimers s).time with lock := l })
      else raise .lock (withoutOwnSync ((restartSyncTimers s).setTime { (restartSyncTimers s).time with lock := l })) := by
  obtain ⟨own, htime⟩ := withdrawSync_time (restartSyncTimers s)
  have hlock : (withdrawSync (restartSyncTimers s)).time.lock = s.time.lock := by rw [htime]; rfl
  have hidle : ((restartSyncTimers s).setTime { (restartSyncTimers s).time with lock := l }).line.attempt = none := hatt
  rw [setLock_quiet hun (by rw [hlock]; exact hfrom) (by rw [withdrawSync_ctl]; exact hjoin), hlock, ← withdrawSync_setLock,
    withdrawSync_idle hidle]
  split
  next h =>
    rw [← withdrawSync_idle hidle, h]
    rfl
  next => rfl

theorem lockTable_ne_unlocked (l : LockState) (slewed : Bool) : lockTable l slewed ≠ .unlocked := by
  cases l <;> cases slewed <;> decide

theorem withinSlew_iff {o : Int} : withinSlew o = true ↔ -20 ≤ o ∧ o ≤ 20 := by
  rw [withinSlew, Bool.and_eq_true, decide_eq_true_iff, decide_eq_true_iff]
  rfl

/-- Settles O23: within the limit the correction is a slew. -/
theorem syncWithinTheSlewLimit : Obligations.SyncWithinTheSlewLimit := by
  intro s src time sample hst hin hsrc hsample o next hlow hhigh
  have hstates : s.ctl.state = .member ∨ s.ctl.state = .joining := hst.imp_right (·.1)
  have hslew : withinSlew o = true := withinSlew_iff.mpr ⟨hlow, hhigh⟩
  have hjoin : next = .locked → s.ctl.state ≠ .joining := by
    intro hl hj
    rcases hst with h | ⟨-, h⟩
    · rw [hj] at h; cases h
    · simp [next, h, lockTable] at hl
  have hfrom : s.time.lock = .locked → next = .locked := fun h => by simp [next, h, lockTable]
  have htake : takeSync time sample (delivered src s) = setLock next (withdrawSync (restartSyncTimers
      ((delivered src s).setTime { s.time with slew := newSlew o }))) := by
    change setLock (lockAfterSync s.time.lock (withinSlew o)) (withdrawSync (restartSyncTimers (correctTime o (delivered src s)))) = _
    rw [hslew, lockAfterSync_eq, correctTime, if_pos hslew]
    rfl
  rw [exec_sync hstates hin hsrc hsample, htake,
    syncTaken_eq (s := (delivered src s).setTime { s.time with slew := newSlew o }) hin.1 (lockTable_ne_unlocked _ _) hfrom hjoin]
  rfl

/-! ### A step that meets nothing (R85) -/

theorem meetStep_idle {s : State} (hrec : ∀ (i : Fin 4) (r : SetRecord), s.part.table[i] = some r → r.epoch = none)
    (hchan : ∀ c : Fin 16, s.chans[c].pending = none) (hprop : ∀ p, s.prop.activity ≠ .active p) : meetStep s = s := by
  have hnoEpoch (which : SetRecord → Bool) (hwhich : ∀ r, which r = true → epochReached s r = true) (i : Fin 4) :
      holdsRecord which s i = false := by
    rw [← Bool.not_eq_true, holdsRecord_iff]
    rintro ⟨r, hi, hr⟩
    have := hwhich r hr
    simp [epochReached, hrec i r hi] at this
  have happly : ∀ i, applyDue s i = false := hnoEpoch _ (by simp)
  have hexpiry : ∀ i, expiryDue s i = false := hnoEpoch _ (by simp)
  have hself : ∀ i, selfExpiryDue s i = false := hnoEpoch _ (by simp)
  have hcount : positions.countP (expiryDue s) = 0 := by simp [hexpiry]
  have hepoch : meetProposerEpoch s = s := by
    unfold meetProposerEpoch
    split
    next h =>
      obtain ⟨p, hp, -⟩ := proposerEpochDue_iff.mp h
      exact absurd hp (hprop p)
    next => rfl
  have hmeet (l : List (Fin 4)) : l.foldl (fun t i => meetRecord i t) s = s := by
    induction l with
    | nil => rfl
    | cons i l ih =>
      have hi : meetRecord i s = s := by
        simp only [meetRecord, happly, hexpiry, hself, Bool.false_eq_true, if_false]
      rw [List.foldl_cons, hi, ih]
  have hswap (l : List (Fin 16)) : l.foldl (fun t c => completeSwap c t) s = s := by
    induction l with
    | nil => rfl
    | cons c l ih =>
      have hc : completeSwap c s = s := completeSwap_idle (by simp only [swapDue, hchan])
      rw [List.foldl_cons, hc, ih]
  simp only [meetStep, hcount, Nat.zero_le, if_true, hepoch, hmeet, meetSwaps, hswap]

/-- Settles O24: beyond the limit the correction is a step. -/
theorem syncBeyondTheSlewLimitSteps : Obligations.SyncBeyondTheSlewLimitSteps := by
  intro s src time sample hst hin hsrc hsample hrec hchan hprop o next hfar
  have hstates : s.ctl.state = .member ∨ s.ctl.state = .joining := hst.imp_right (·.1)
  have hstep : withinSlew o = false := by
    rw [← Bool.not_eq_true]
    rw [withinSlew_iff]
    rintro ⟨hlow, hhigh⟩
    exact hfar.elim (fun h => absurd hlow (Int.not_le.mpr h)) fun h => absurd hhigh (Int.not_le.mpr h)
  have hjoin : next = .locked → s.ctl.state ≠ .joining := by
    intro hl hj
    rcases hst with h | ⟨-, h | h⟩
    · rw [hj] at h; cases h
    · simp [next, h, lockTable] at hl
    · simp [next, h, lockTable] at hl
  have hfrom : s.time.lock = .locked → next = .locked := fun h => by simp [next, h, lockTable]
  let stepped := raise .step ((delivered src s).setTime
    { s.time with now := s.time.now + BitVec.ofInt 48 o, slew := none, lastStep := some o })
  have hmeet : meetStep stepped = stepped := meetStep_idle hrec hchan hprop
  have htake : takeSync time sample (delivered src s) = setLock next (withdrawSync (restartSyncTimers stepped)) := by
    change setLock (lockAfterSync s.time.lock (withinSlew o)) (withdrawSync (restartSyncTimers (correctTime o (delivered src s)))) = _
    rw [hstep, lockAfterSync_eq, correctTime, if_neg (by rw [hstep]; decide)]
    exact congrArg (fun t => setLock next (withdrawSync (restartSyncTimers t))) hmeet
  rw [exec_sync hstates hin hsrc hsample, htake, syncTaken_eq (s := stepped) hin.1 (lockTable_ne_unlocked _ _) hfrom hjoin]
  rfl

/-! ### Self-source and the first lock (R90, R159) -/

theorem exec_selfSource (s : State) :
    exec .selfSource s = .next (if selfSourceDue s then setLock .locked (restartSyncTimers s) else s) := rfl

/-- The first lock of a JOINING station makes it MEMBER (R91, R159). -/
theorem setLock_joins {s : State} (hlock : s.time.lock ≠ .locked) (hj : s.ctl.state = .joining)
    (hown : s.memb.ownPresence = false) (hroom : s.line.queue.length < 12) :
    setLock .locked s = raise .lock ((((s.setTime { s.time with lock := .locked }).setCtl { s.ctl with state := .member }).setMemb
      { s.memb with interval := some 0, presence := some 0, announced := false, ownPresence := true }).setLine
        { s.line with
          queue := insertFrame { src := s.ctl.number, dest := none, body := .presence .unlocked 0 0 true } s.line.queue }) := by
  unfold setLock
  rw [if_neg hlock]
  simp only [if_neg hlock]
  change lockedReactions (raise .lock (s.setTime { s.time with lock := .locked })) = _
  unfold lockedReactions
  rw [if_pos (show (raise .lock (s.setTime { s.time with lock := .locked })).ctl.state = .joining from hj), enterMember,
    offerPresence_room]
  · rfl
  · exact hown
  · exact hroom

/-- Settles O46: SELF_SOURCE by its count and the station state, and the SYNC that locks a JOINING station. -/
theorem firstLockMakesTheStationMember : Obligations.FirstLockMakesTheStationMember := by
  refine fun s => ⟨fun n hn hlock => ⟨fun hlt => ?early, fun hm hle => ?member, fun hj hle hown hroom => ?joining⟩,
    fun src time sample hj hin hsrc hacq hownSync hsample hown hroom => ?sync⟩
  case early =>
    rw [exec_selfSource, if_neg]
    rw [selfSourceDue_iff]
    rintro ⟨-, -, m, hm, hle⟩
    obtain rfl := Option.some.inj (hn.symm.trans hm)
    omega
  case member =>
    have hdue : selfSourceDue s = true := selfSourceDue_iff.mpr ⟨.inr hm, hlock, n, hn, hle⟩
    rw [exec_selfSource, if_pos hdue, setLock_quiet (s := restartSyncTimers s) (by decide) (fun _ => rfl)
      (fun _ => by simp [restartSyncTimers, hm]), if_neg (by simp [restartSyncTimers, hlock])]
    rfl
  case joining =>
    have hdue : selfSourceDue s = true := selfSourceDue_iff.mpr ⟨.inl hj, hlock, n, hn, hle⟩
    rw [exec_selfSource, if_pos hdue, setLock_joins (s := restartSyncTimers s) (by simp [restartSyncTimers, hlock]) hj hown hroom]
    rfl
  case sync =>
    intro o hlow hhigh
    have hslew : withinSlew o = true := withinSlew_iff.mpr ⟨hlow, hhigh⟩
    have htake : takeSync time sample (delivered src s) = setLock .locked (restartSyncTimers
        ((delivered src s).setTime { s.time with slew := newSlew o })) := by
      change setLock (lockAfterSync s.time.lock (withinSlew o)) (withdrawSync (restartSyncTimers (correctTime o (delivered src s)))) = _
      rw [hslew, hacq, correctTime, if_pos hslew, withdrawSync, if_neg]
      · rfl
      · exact Bool.eq_false_iff.mp hownSync
    let restarted := restartSyncTimers ((delivered src s).setTime { s.time with slew := newSlew o })
    have hnew : restarted.time.lock ≠ .locked := by simp [restarted, restartSyncTimers, hacq]
    rw [exec_sync (.inr hj) hin hsrc hsample, htake, setLock_joins (s := restarted) hnew hj hown hroom]
    refine ⟨_, rfl, ?_, ?_, ?_, ?_, isPending_raise_self (by decide) _, ?_, ?_, ?_, ?_, ?_, ?_, ?_, ?_⟩
    case refine_5 =>
      exact raisesOnly_trans (raisesOnly_trans (t := delivered src s) (raisesOnly_mono (raisesOnly_delivered src s) (by simp))
        (raisesOnly_congr _ (by simp [restarted, restartSyncTimers]) (by simp [restarted, restartSyncTimers])))
        (raisesOnly_mono (raisesOnly_raise_self .lock _) (by simp))
    all_goals simp [restarted, restartSyncTimers, newSlew, afterFrame]

end Sys2Proof.Machine


/-! PROOFS. Items staged one at a time, the timers of a record, and the epoch of an ARMED one (R10 to R16, R30, R31, R36, R37,
R42). -/

namespace Sys2Proof.Machine

/-! ### The items of a STAGE (R30) -/

theorem insertItem_eq_append (it : Item) (items : List Item) :
    ∃ front back, items = front ++ back ∧ insertItem it items = front ++ it :: back := by
  induction items with
  | nil => exact ⟨[], [], rfl, rfl⟩
  | cons x rest ih =>
    unfold insertItem
    split
    next =>
      obtain ⟨front, back, hrest, hins⟩ := ih
      exact ⟨x :: front, back, by rw [hrest]; rfl, by rw [hins]; rfl⟩
    next => exact ⟨[], x :: rest, rfl, rfl⟩

theorem stageItems_cons (free : Nat) (r : SetRecord) (it : Item) (rest : List Item) :
    stageItems free r (it :: rest) =
      stageItems (free - ((stageItem free r it).items.length - r.items.length)) (stageItem free r it) rest := rfl

/-- Settles O27: each item by its validity, by the channels held and by the slots left. -/
theorem stagedItemsOneAtATime : Obligations.StagedItemsOneAtATime := by
  refine ⟨itemValid_iff, fun free r it rest => ⟨rfl, fun hbad => ?invalid, fun hit hheld => ?held,
    fun hit hnew => ⟨fun hfull => ?short, fun hfree => ?inserted⟩⟩⟩
  case invalid =>
    have hv : itemValid it = false := Bool.eq_false_iff.mpr (mt (itemValid_iff it).mp hbad)
    have hstage : stageItem free r it = { r with invalid := true } := by simp [stageItem, hv]
    rw [stageItems_cons, hstage, Nat.sub_self, Nat.sub_zero]
  all_goals have hv : itemValid it = true := (itemValid_iff it).mpr hit
  case held =>
    have hany : r.items.any (fun x => x.channel == it.channel) = true := by simpa using hheld
    have hstage : stageItem free r it = { r with items := replaceItem it r.items } := by simp [stageItem, hv, hany]
    rw [stageItems_cons, hstage]
    simp only [replaceItem, List.length_map, Nat.sub_self, Nat.sub_zero]
  all_goals have hany : r.items.any (fun x => x.channel == it.channel) = false := by simpa using hnew
  case short =>
    have hstage : stageItem free r it = { r with short := true } := by simp [stageItem, hv, hany, hfull]
    rw [stageItems_cons, hstage, Nat.sub_self, Nat.sub_zero]
  case inserted =>
    have hstage : stageItem free r it = { r with items := insertItem it r.items } := by simp [stageItem, hv, hany, hfree]
    obtain ⟨front, back, hitems, hins⟩ := insertItem_eq_append it r.items
    refine ⟨front, back, hitems, ?_, fun hsound => ?_⟩
    · have hlen : (insertItem it r.items).length - r.items.length = 1 := by
        rw [(insertItem_perm it r.items).length_eq, List.length_cons, Nat.add_sub_cancel_left]
      rw [stageItems_cons, hstage, hlen, hins]
    · have := (stageItem_items (free := free) (it := it) hsound).1
      rwa [hstage, hins] at this

/-! ### The timers of a record (R31, R36, R37) -/

/-- A record's wait, read off its timer. -/
theorem waited_iff {s : State} {i : Fin 4} {r : SetRecord} {start : Instant} (hi : s.part.table[i] = some r)
    (ht : r.timer = some start) (state : RecordState) (n : Nat) (which : SetRecord → Prop) :
    waited s i state n which ↔ (r.state = state ∧ which r) ∧ start + n * bitTime s.ctl.rate ≤ s.clock.osc := by
  refine ⟨fun ⟨q, b, hq, hst, hw, hb, hle⟩ => ?_, fun ⟨⟨hst, hw⟩, hle⟩ => ⟨r, start, hi, hst, hw, ht, hle⟩⟩
  obtain rfl := Option.some.inj (hi.symm.trans hq)
  obtain rfl := Option.some.inj (ht.symm.trans hb)
  exact ⟨⟨hst, hw⟩, hle⟩

theorem exec_staleTimeout (i : Fin 4) (s : State) :
    exec (.staleTimeout i) s = .next (if staleDue s i then raise .setDropped (freeRecord i s) else s) := rfl

theorem exec_decisionTimeout (i : Fin 4) (s : State) :
    exec (.decisionTimeout i) s = .next (if decisionDue s i then inquire i (becomeInDoubt i s) else s) := rfl

theorem exec_inquiryTimer (i : Fin 4) (s : State) :
    exec (.inquiryTimer i) s = .next (if inquiryDue s i then inquire i s else s) := rfl

/-- An INQUIRE attempt: the count, the timer, and the frame when none of its set is queued and there is room (R37). -/
theorem inquire_eq {s : State} {i : Fin 4} {r : SetRecord} (hi : s.part.table[i] = some r) :
    inquire i s =
      if s.line.queue.any (isInquireFor r.set) = false ∧ s.line.queue.length < 12 then
        (putRecord i (some (inquired s r)) s).setLine
          { s.line with queue := insertFrame (ownFrame s (some r.set.proposer) (.inquire r.set)) s.line.queue }
      else putRecord i (some (inquired s r)) s := by
  have hattempt : inquire i s =
      if s.line.queue.any (isInquireFor r.set) then putRecord i (some (inquired s r)) s
      else offer (ownFrame s (some r.set.proposer) (.inquire r.set)) (putRecord i (some (inquired s r)) s) := by
    simp only [inquire, hi, inquired]
  rw [hattempt]
  cases hany : s.line.queue.any (isInquireFor r.set) with
  | true => simp
  | false =>
    by_cases hroom : s.line.queue.length < 12
    · rw [offer_accepted (s := putRecord i (some (inquired s r)) s) (queueHasRoom_iff.mpr hroom)]
      simp only [Bool.false_eq_true, if_false, true_and, hroom, if_true]
      rfl
    · rw [offer_refused (s := putRecord i (some (inquired s r)) s) (queueHasRoom_full hroom)]
      simp [hroom]

/-- Settles O50: each timer by its count, and the INQUIRE attempts by their number. -/
theorem recordTimersRunOut : Obligations.RecordTimersRunOut := by
  refine fun s i r start hi hself ht => ⟨fun hst => ⟨fun hnot => ?staleEarly, fun hafter hq => ?stale⟩,
    fun hst hzero => ⟨fun hnot => ?voteEarly, fun hafter => ?vote⟩,
    fun hst => ⟨fun hnot => ?inquiryEarly, fun hafter hfew => ?inquiry⟩⟩
  case staleEarly =>
    rw [exec_staleTimeout, if_neg]
    rw [staleDue_iff]
    exact fun h => hnot ((waited_iff hi ht _ _ _).mp h).2
  case stale =>
    rw [exec_staleTimeout, if_pos (staleDue_iff.mpr ((waited_iff hi ht _ _ _).mpr ⟨⟨hst, hself⟩, hafter⟩)),
      freeRecord_staging hi hst hq]
    rfl
  case voteEarly =>
    rw [exec_decisionTimeout, if_neg]
    rw [decisionDue_iff]
    exact fun h => hnot ((waited_iff hi ht _ _ _).mp h).2
  case vote =>
    have hdoubt : becomeInDoubt i s = putRecord i (some { r with state := .inDoubt }) s := by simp only [becomeInDoubt, hi]
    rw [exec_decisionTimeout, if_pos (decisionDue_iff.mpr ((waited_iff hi ht _ _ _).mpr ⟨⟨hst, hself⟩, hafter⟩)), hdoubt,
      inquire_eq (putRecord_same _ _ _)]
    simp only [putRecord_putRecord, hzero]
    rfl
  case inquiryEarly =>
    rw [exec_inquiryTimer, if_neg]
    rw [inquiryDue_iff]
    intro h
    obtain ⟨⟨-, hfew⟩, hafter⟩ := (waited_iff hi ht _ _ _).mp h
    exact hnot.elim (fun hn => hn hafter) (Nat.not_le.mpr hfew)
  case inquiry =>
    rw [exec_inquiryTimer, if_pos (inquiryDue_iff.mpr ((waited_iff hi ht _ _ _).mpr ⟨⟨hst, hfew⟩, hafter⟩)), inquire_eq hi,
      ← hst]
    rfl

/-! ### The epoch of an ARMED record, and a waiting swap (R10 to R16, R42) -/

theorem atEpoch_iff {s : State} {i : Fin 4} {r : SetRecord} {e : NetTime} (hi : s.part.table[i] = some r)
    (he : r.epoch = some e) (which : SetRecord → Prop) : atEpoch s i which ↔ which r ∧ 0 ≤ sdiff s.time.now e := by
  refine ⟨fun ⟨q, b, hq, hb, hw, hle⟩ => ?_, fun ⟨hw, hle⟩ => ⟨r, e, hi, he, hw, hle⟩⟩
  obtain rfl := Option.some.inj (hi.symm.trans hq)
  obtain rfl := Option.some.inj (he.symm.trans hb)
  exact ⟨hw, hle⟩

theorem exec_epochApply (i : Fin 4) (s : State) :
    exec (.epochApply i) s = .next (if applyDue s i then applyRecord i s else s) := rfl

/-- The claim of a channel that a voted record holds an item for, and the swap that it does not wait for (R27). -/
theorem claim_of_record {s : State} (h : ClaimsSound s) {i : Fin 4} {r : SetRecord} (hi : s.part.table[i] = some r)
    (hst : r.state ≠ .staging) {c : Fin 16} (hc : r.items.any (onChannel c) = true) :
    s.part.claims[c] = some r.set ∧ s.chans[c].pending = none := by
  have hholder : recordHolder s i c = some r.set := by simp only [recordHolder, hi, if_pos (And.intro hst hc)]
  obtain ⟨hclaim, hswap, -⟩ := (h c).1 i (by simp [hholder])
  exact ⟨hclaim.trans hholder, Option.map_eq_none_iff.mp hswap⟩

/-- The claim of a channel that waits for a swap (R27). -/
theorem claim_of_swap {s : State} (h : ClaimsSound s) {c : Fin 16} {w : PendingSwap} (hw : s.chans[c].pending = some w) :
    s.part.claims[c] = some w.set := by
  have hholder : swapHolder s c = some w.set := by rw [swapHolder, hw]; rfl
  exact ((h c).2.1 (by simp [hholder])).trans hholder

/-- The instant at which an item of a handover at the epoch `e` is installed (R11, R12). -/
def loadInstant (e : NetTime) (it : Item) (ch : ChannelRecord) : NetTime :=
  if it.load = .atEpoch then e else boundaryOf ch.active ch.anchor e

/-- An item at its instant, or past it, is installed (R11, R13). -/
theorem takeItem_installed {set : SetId} {e now : NetTime} {it : Item} {ch : ChannelRecord}
    (h : 0 ≤ sdiff now (loadInstant e it ch) ∨ loadInstant e it ch = e) :
    takeItem set e now it ch = { ch with active := it.program, anchor := loadInstant e it ch } := by
  unfold takeItem loadInstant at *
  split
  next hl => simp only [hl, if_true]; rfl
  next hl =>
    simp only [hl, reduceCtorEq, if_false] at h ⊢
    split
    next hb => rw [hb]; rfl
    next hb => rw [if_pos (reached_iff.mpr (h.resolve_right hb))]; rfl

/-- An item whose boundary lies ahead waits for it (R13). -/
theorem takeItem_waiting {set : SetId} {e now : NetTime} {it : Item} {ch : ChannelRecord}
    (h : sdiff now (loadInstant e it ch) < 0) (hne : loadInstant e it ch ≠ e) :
    takeItem set e now it ch =
      { ch with pending := some { program := it.program, boundary := loadInstant e it ch, set := set } } := by
  unfold takeItem loadInstant at *
  split
  next hl => simp [hl] at hne
  next hl =>
    simp only [hl, reduceCtorEq, if_false] at h hne ⊢
    rw [if_neg hne, if_neg (by rw [reached_iff]; omega)]

/-- The claim of a channel after a handover: released when the item is installed (R14, R42). -/
theorem handover_claim (set : SetId) (e : NetTime) (items : List Item) (s : State) (c : Fin 16) :
    (handover set e items s).part.claims[c] =
      if items.any (onChannel c) = true ∧ (handover set e items s).chans[c].pending = none ∧ s.part.claims[c] = some set then none
      else s.part.claims[c] := by
  simp [handover, and_assoc]

theorem applyRecord_eq {s : State} {i : Fin 4} {r : SetRecord} {e : NetTime} (hi : s.part.table[i] = some r)
    (he : r.epoch = some e) :
    applyRecord i s = raise .setApplied (putRecord i none (handover r.set e r.items s)) := by
  simp only [applyRecord, hi, he]

/-- What an ARMED record's handover makes of a channel that it holds an item for (R10, R11, R13, R14). -/
theorem handover_channel {s : State} (h : ClaimsSound s) {i : Fin 4} {r : SetRecord} {e : NetTime}
    (hi : s.part.table[i] = some r) (hst : r.state ≠ .staging) {c : Fin 16} {it : Item}
    (hit : r.items.find? (onChannel c) = some it) :
    (0 ≤ sdiff s.time.now (loadInstant e it s.chans[c]) ∨ loadInstant e it s.chans[c] = e →
      (handover r.set e r.items s).chans[c] =
          { s.chans[c] with active := it.program, anchor := loadInstant e it s.chans[c] } ∧
        (handover r.set e r.items s).part.claims[c] = none) ∧
    (sdiff s.time.now (loadInstant e it s.chans[c]) < 0 ∧ loadInstant e it s.chans[c] ≠ e →
      (handover r.set e r.items s).chans[c] = { s.chans[c] with
          pending := some { program := it.program, boundary := loadInstant e it s.chans[c], set := r.set } } ∧
        (handover r.set e r.items s).part.claims[c] = some r.set) := by
  have hany : r.items.any (onChannel c) = true :=
    List.any_eq_true.mpr ⟨it, List.mem_of_find?_eq_some hit, List.find?_some hit⟩
  obtain ⟨hclaim, hnone⟩ := claim_of_record h hi hst hany
  refine ⟨fun hin => ?_, fun ⟨hlt, hne⟩ => ?_⟩
  · have hch := (handover_at (set := r.set) (e := e) (s := s) hit).trans (takeItem_installed hin)
    refine ⟨hch, ?_⟩
    rw [handover_claim, if_pos ⟨hany, by rw [hch]; exact hnone, hclaim⟩]
  · have hch := (handover_at (set := r.set) (e := e) (s := s) hit).trans (takeItem_waiting hlt hne)
    refine ⟨hch, ?_⟩
    rw [handover_claim, if_neg (by rw [hch]; simp), hclaim]

/-- Settles O51: an ARMED record by its epoch, each channel by the item for it, and a swap by its boundary. -/
theorem armedRecordsAndSwapsAreApplied : Obligations.ArmedRecordsAndSwapsAreApplied := by
  refine fun s hclaims => ⟨fun i r e hi hst he => ⟨fun hlt => ?early, fun hle => ?epoch⟩, fun c =>
    ⟨fun w hw => ⟨fun hlt => ?swapEarly, fun hle => ?swap⟩, fun hnone => ?noSwap⟩⟩
  case early =>
    rw [exec_epochApply, if_neg]
    rw [applyDue_iff]
    exact fun h => absurd ((atEpoch_iff hi he _).mp h).2 (Int.not_le.mpr hlt)
  case epoch =>
    have hnot : r.state ≠ .staging := by simp [hst]
    obtain ⟨chans, claims, hframe⟩ : ∃ chans claims, handover r.set e r.items s =
        (s.setChans chans).setPart { s.part with claims := claims } := ⟨_, _, handover_frame _ _ _ _⟩
    have hexec : exec (.epochApply i) s = .next (raise .setApplied (putRecord i none
        ((s.setChans chans).setPart { s.part with claims := claims }))) := by
      rw [exec_epochApply, if_pos (applyDue_iff.mpr ((atEpoch_iff hi he _).mpr ⟨hst, hle⟩)), applyRecord_eq hi he, hframe]
    refine ⟨_, hexec, rfl, fun c => ?_⟩
    split
    next hfind =>
      have hany : ¬ r.items.any (onChannel c) = true := by simpa [List.any_eq_true] using hfind
      have hother := handover_other (set := r.set) (e := e) (s := s) hfind
      have hclaim := (handover_claim r.set e r.items s c).trans (if_neg fun h => hany h.1)
      rw [hframe] at hother hclaim
      exact ⟨hother, hclaim⟩
    next it hfind =>
      have htaken := handover_channel (e := e) hclaims hi hnot hfind
      rw [hframe] at htaken
      exact htaken
  case swapEarly =>
    refine congrArg _ (completeSwap_idle ?_)
    rw [← Bool.not_eq_true, swapDue_iff]
    rintro ⟨w', hw', hle⟩
    obtain rfl := Option.some.inj (hw.symm.trans hw')
    exact absurd hle (Int.not_le.mpr hlt)
  case swap =>
    refine congrArg _ ((completeSwap_due hw (reached_iff.mpr hle)).trans ?_)
    rw [releaseClaim, if_pos]
    · rfl
    · exact claim_of_swap hclaims hw
  case noSwap =>
    refine congrArg _ (completeSwap_idle ?_)
    simp only [swapDue, hnone]

end Sys2Proof.Machine


/-! PROOFS. What one withdrawal after another leaves of the transmit queue, of the line and of the proposal's frame that waits for
room (R37, R62, R87, R115, R116). -/

namespace Sys2Proof.Machine

/-! ### Lists: the one frame erased, and an insertion seen through a filter -/

theorem eraseP_eq_filter {p : Frame → Bool} {q : List Frame} (h : q.countP p ≤ 1) : q.eraseP p = q.filter (!p ·) := by
  induction q with
  | nil => rfl
  | cons x rest ih =>
    by_cases hx : p x = true
    · have hrest : rest.countP p = 0 := by
        rw [List.countP_cons_of_pos hx] at h
        omega
      rw [List.eraseP_cons_of_pos hx, List.filter_cons_of_neg (by simp [hx])]
      refine (List.filter_eq_self.mpr fun y hy => ?_).symm
      simpa using List.countP_eq_zero.mp hrest y hy
    · rw [List.countP_cons_of_neg hx] at h
      rw [List.eraseP_cons_of_neg hx, List.filter_cons_of_pos (by simp [hx]), ih h]

theorem filter_eraseP {p keep : Frame → Bool} (h : ∀ f, keep f = true → p f = false) (q : List Frame) :
    (q.eraseP p).filter keep = q.filter keep := by
  induction q with
  | nil => rfl
  | cons x rest ih =>
    by_cases hx : p x = true
    · have hk : keep x = false := by
        by_contra hk
        rw [h x (Bool.of_not_eq_false hk)] at hx
        cases hx
      rw [List.eraseP_cons_of_pos hx, List.filter_cons_of_neg (by simp [hk])]
    · rw [List.eraseP_cons_of_neg hx, List.filter_cons, List.filter_cons, ih]

/-- An insertion is not seen through a filter that drops the frame. -/
theorem filter_insertFrame_neg {keep : Frame → Bool} {f : Frame} (h : keep f = false) (q : List Frame) :
    (insertFrame f q).filter keep = q.filter keep := by
  induction q with
  | nil => simp [insertFrame, h]
  | cons x rest ih =>
    unfold insertFrame
    split
    · rw [List.filter_cons, List.filter_cons, ih]
    · rw [List.filter_cons_of_neg (by simp [h])]

/-- A frame inserted before its betters stays there. -/
theorem insertFrame_below {f : Frame} {q : List Frame} (h : ∀ x ∈ q, f.arbitration < x.arbitration) :
    insertFrame f q = f :: q := by
  cases q with
  | nil => rfl
  | cons x rest => rw [insertFrame, if_neg (Nat.not_le.mpr (h x List.mem_cons_self))]

/-- A filter that keeps the frame commutes with its insertion into a queue in order (R115). -/
theorem filter_insertFrame {keep : Frame → Bool} {f : Frame} (h : keep f = true) {q : List Frame}
    (hq : q.Pairwise fun x y => x.arbitration ≤ y.arbitration) :
    (insertFrame f q).filter keep = insertFrame f (q.filter keep) := by
  induction q with
  | nil => simp [insertFrame, h]
  | cons x rest ih =>
    obtain ⟨hx, hrest⟩ := List.pairwise_cons.mp hq
    rw [insertFrame]
    split
    next hle =>
      rw [List.filter_cons, List.filter_cons, ih hrest]
      split
      · rw [insertFrame, if_pos hle]
      · rfl
    next hlt =>
      rw [List.filter_cons_of_pos h, insertFrame_below fun y hy => ?_]
      rcases List.mem_cons.mp (List.mem_of_mem_filter hy) with rfl | hy
      · omega
      · have := hx y hy; omega

theorem count_eq_of_filter {f : Frame} {q r : List Frame}
    (h : q.filter (fun x => decide (x = f)) = r.filter fun x => decide (x = f)) : q.count f = r.count f := by
  have hcount (l : List Frame) : l.count f = (l.filter fun x => decide (x = f)).length := by
    rw [List.count, List.countP_eq_length_filter]
    congr 1
  rw [hcount, hcount, h]

theorem mem_of_filter {f : Frame} {q r : List Frame}
    (h : q.filter (fun x => decide (x = f)) = r.filter fun x => decide (x = f)) : f ∈ q ↔ f ∈ r := by
  rw [← List.count_pos_iff, ← List.count_pos_iff, count_eq_of_filter h]

/-! ### Withdrawals, one after the other -/

/-- Frames of several kinds are withdrawn, one kind after the other. -/
def withdrawEach (ws : List (Frame → Bool)) (s : State) : State := ws.foldl (fun t w => withdrawFrame w t) s

/-- The frame is of one of the kinds. -/
def namedBy (ws : List (Frame → Bool)) (f : Frame) : Bool := ws.any (· f)

theorem namedBy_cons (w : Frame → Bool) (ws : List (Frame → Bool)) (f : Frame) :
    namedBy (w :: ws) f = (w f || namedBy ws f) := rfl

theorem namedBy_cons_eq_false {w : Frame → Bool} {ws : List (Frame → Bool)} {f : Frame} :
    namedBy (w :: ws) f = false ↔ w f = false ∧ namedBy ws f = false := by
  rw [namedBy_cons, Bool.or_eq_false_iff]

/-- No kind has two frames in the queue. -/
def OncePerKind (ws : List (Frame → Bool)) (s : State) : Prop := ∀ w ∈ ws, s.line.queue.countP w ≤ 1

/-- What withdrawals leave while the proposal's frame that waits for room has not found it. -/
structure Unplaced (ws : List (Frame → Bool)) (s t : State) : Prop where
  prop : t.prop = s.prop
  sublist : t.line.queue.Sublist s.line.queue
  keep : ∀ keep : Frame → Bool, (∀ f, keep f = true → namedBy ws f = false) →
    t.line.queue.filter keep = s.line.queue.filter keep
  exact : OncePerKind ws s → t.line.queue = s.line.queue.filter (!namedBy ws ·)
  full : (∃ g ∈ s.line.queue, namedBy ws g = true) → ∀ f, waitsForRoom s f → 12 < s.line.queue.length

/-- What withdrawals leave when the proposal's frame that waited for room has found it. -/
structure Placed (ws : List (Frame → Bool)) (p : Proposal) (f : Frame) (s t : State) : Prop where
  active : s.prop.activity = .active p
  waits : p.outstanding = some { frame := f, queued := false }
  prop : t.prop = { s.prop with activity := .active { p with outstanding := some { frame := f, queued := true } } }
  hit : ∃ g ∈ s.line.queue, namedBy ws g = true
  length : t.line.queue.length ≤ s.line.queue.length
  room : t.line.queue.length ≤ 12
  countP : ∀ which : Frame → Bool, which f = false → t.line.queue.countP which ≤ s.line.queue.countP which
  mem : ∀ g ∈ t.line.queue, g = f ∨ g ∈ s.line.queue ∧ (OncePerKind ws s → namedBy ws f = false → namedBy ws g = false)
  keep : ∀ keep : Frame → Bool, (∀ f, keep f = true → namedBy ws f = false) → keep f = false →
    t.line.queue.filter keep = s.line.queue.filter keep
  count : namedBy ws f = false → t.line.queue.count f = s.line.queue.count f + 1
  exact : OncePerKind ws s → namedBy ws f = false →
    s.line.queue.Pairwise (fun x y => x.arbitration ≤ y.arbitration) →
      t.line.queue = insertFrame f (s.line.queue.filter (!namedBy ws ·))

theorem waitsForRoom_iff {s : State} {f : Frame} :
    waitsForRoom s f ↔ ∃ p, s.prop.activity = .active p ∧ p.outstanding = some { frame := f, queued := false } := by
  unfold waitsForRoom outstandingFrame
  constructor
  · rintro ⟨⟨frame, queued⟩, hout, rfl, rfl⟩
    split at hout
    next p hp => exact ⟨p, hp, hout⟩
    next => cases hout
  · rintro ⟨p, hp, ho⟩
    exact ⟨_, by rw [hp]; exact ho, rfl, rfl⟩

/-- The report of a freed entry: nothing, or the frame that waits takes its place (R62). -/
theorem offerWaiting_cases (s : State) :
    (offerWaiting s = s ∧ ∀ f, waitsForRoom s f → 12 ≤ s.line.queue.length) ∨
      ∃ p f, s.prop.activity = .active p ∧ p.outstanding = some { frame := f, queued := false } ∧
        s.line.queue.length < 12 ∧ offerWaiting s = (s.setLine { s.line with queue := insertFrame f s.line.queue }).setProp
          { s.prop with activity := .active { p with outstanding := some { frame := f, queued := true } } } := by
  unfold offerWaiting
  split
  next p hp =>
    split
    next f ho =>
      split
      next hroom => exact .inr ⟨p, f, hp, ho, hroom, rfl⟩
      next hfull => exact .inl ⟨rfl, fun _ _ => Nat.not_lt.mp hfull⟩
    next hno =>
      refine .inl ⟨rfl, fun f hf => ?_⟩
      obtain ⟨q, hq, ho⟩ := waitsForRoom_iff.mp hf
      cases hp.symm.trans hq
      exact absurd ho (hno f)
  next hno =>
    refine .inl ⟨rfl, fun f hf => ?_⟩
    obtain ⟨q, hq, -⟩ := waitsForRoom_iff.mp hf
    exact absurd hq (hno q)

/-- A withdrawal, as the line without the frame and then the report of the freed entry. -/
theorem withdrawFrame_hit {w : Frame → Bool} {s : State} (h : s.line.queue.any w = true) :
    withdrawFrame w s = offerWaiting (s.setLine (lineWithout w s)) := by
  rw [withdrawFrame_eq, if_pos h, entryFreed_eq]

theorem unplaced_refl {ws : List (Frame → Bool)} {s : State} (h : ∀ f ∈ s.line.queue, namedBy ws f = false) :
    Unplaced ws s s where
  prop := rfl
  sublist := .refl _
  keep _ _ := rfl
  exact _ := (List.filter_eq_self.mpr fun f hf => by simp [h f hf]).symm
  full := fun ⟨g, hg, hn⟩ => by rw [h g hg] at hn; cases hn

/-- One withdrawal. -/
theorem withdrawFrame_outcome (w : Frame → Bool) (s : State) :
    Unplaced [w] s (withdrawFrame w s) ∨ ∃ p f, Placed [w] p f s (withdrawFrame w s) := by
  have hnamed (f : Frame) : namedBy [w] f = w f := by simp [namedBy]
  have honce : OncePerKind [w] s → s.line.queue.countP w ≤ 1 := fun h => h w List.mem_cons_self
  cases hany : s.line.queue.any w with
  | false =>
    rw [withdrawFrame_none hany]
    exact .inl (unplaced_refl fun f hf => by
      rw [hnamed]
      exact Bool.eq_false_iff.mpr (List.any_eq_false.mp hany f hf))
  | true =>
    have hhit : ∃ g ∈ s.line.queue, namedBy [w] g = true := by simpa [hnamed] using List.any_eq_true.mp hany
    rw [withdrawFrame_hit hany]
    rcases offerWaiting_cases (s.setLine (lineWithout w s)) with ⟨heq, hfull⟩ | ⟨p, f, hp, ho, hroom, heq⟩
    · rw [heq]
      exact .inl
        { prop := rfl
          sublist := List.eraseP_sublist
          keep := fun keep hkeep => filter_eraseP (by simpa [hnamed] using hkeep) _
          exact := fun h => (eraseP_eq_filter (honce h)).trans (by simp [hnamed])
          full := fun _ f hf => by
            have hlen : 12 ≤ (s.line.queue.eraseP w).length := hfull f hf
            have hlt : (s.line.queue.eraseP w).length < s.line.queue.length := by
              rw [List.length_eraseP, if_pos hany]
              obtain ⟨g, hg, -⟩ := hhit
              have := List.length_pos_of_mem hg
              omega
            omega }
    · rw [heq]
      exact .inr ⟨p, f,
        { active := hp
          waits := ho
          prop := rfl
          hit := hhit
          length := by
            change (insertFrame f (s.line.queue.eraseP w)).length ≤ _
            obtain ⟨g, hg, -⟩ := hhit
            have := List.length_pos_of_mem hg
            rw [(insertFrame_perm f _).length_eq, List.length_cons, List.length_eraseP, if_pos hany]
            omega
          room := by
            change (insertFrame f (s.line.queue.eraseP w)).length ≤ _
            rw [(insertFrame_perm f _).length_eq]
            exact hroom
          countP := fun which hf => by
            change (insertFrame f (s.line.queue.eraseP w)).countP which ≤ _
            rw [countP_insertFrame]
            simpa [hf] using List.eraseP_sublist.countP_le
          mem := fun g hg => by
            change g ∈ insertFrame f (s.line.queue.eraseP w) at hg
            rcases mem_insertFrame.mp hg with rfl | hg
            · exact .inl rfl
            · refine .inr ⟨List.mem_of_mem_eraseP hg, fun h _ => ?_⟩
              rw [eraseP_eq_filter (honce h)] at hg
              simpa [hnamed] using (List.mem_filter.mp hg).2
          keep := fun keep hkeep hf => by
            change (insertFrame f (s.line.queue.eraseP w)).filter keep = _
            rw [filter_insertFrame_neg hf, filter_eraseP (by simpa [hnamed] using hkeep)]
          count := fun hf => by
            rw [hnamed] at hf
            change (insertFrame f (s.line.queue.eraseP w)).count f = _
            rw [(insertFrame_perm f _).count_eq, List.count_cons_self]
            exact congrArg (· + 1) (count_eq_of_filter (filter_eraseP (by simpa using hf) _))
          exact := fun h _ _ => by
            change insertFrame f (s.line.queue.eraseP w) = _
            rw [eraseP_eq_filter (honce h)]
            simp [hnamed] }⟩

theorem pairwise_filter_sorted {q : List Frame} (keep : Frame → Bool)
    (h : q.Pairwise fun x y => x.arbitration ≤ y.arbitration) :
    (q.filter keep).Pairwise fun x y => x.arbitration ≤ y.arbitration :=
  h.sublist List.filter_sublist

theorem oncePerKind_head {w : Frame → Bool} {ws : List (Frame → Bool)} {s : State} (h : OncePerKind (w :: ws) s) :
    OncePerKind [w] s := fun v hv => h v (by rw [List.mem_singleton.mp hv]; exact List.mem_cons_self)

/-- One withdrawal and then others, none of which place a frame. -/
theorem Unplaced.trans {w : Frame → Bool} {ws : List (Frame → Bool)} {s t u : State} (h : Unplaced [w] s t)
    (h' : Unplaced ws t u) : Unplaced (w :: ws) s u where
  prop := h'.prop.trans h.prop
  sublist := h'.sublist.trans h.sublist
  keep := fun keep hkeep =>
    (h'.keep keep fun f hf => (namedBy_cons_eq_false.mp (hkeep f hf)).2).trans
      (h.keep keep fun f hf => by simpa [namedBy] using (namedBy_cons_eq_false.mp (hkeep f hf)).1)
  exact := fun honce => by
    have hone := oncePerKind_head honce
    have hrest : OncePerKind ws t := fun v hv =>
      (h.sublist.countP_le).trans (honce v (List.mem_cons_of_mem _ hv))
    rw [h'.exact hrest, h.exact hone, List.filter_filter]
    simp [namedBy, Bool.and_comm]
  full := fun ⟨g, hg, hn⟩ f hf => by
    cases hw : w g with
    | true => exact h.full ⟨g, hg, by simpa [namedBy] using hw⟩ f hf
    | false =>
      have hgt : g ∈ t.line.queue := (mem_of_filter (h.keep _ fun x hx => by
        rw [of_decide_eq_true hx]; simpa [namedBy] using hw)).mpr hg
      have hft : waitsForRoom t f := by
        rw [waitsForRoom_iff, h.prop]; exact waitsForRoom_iff.mp hf
      exact (h'.full ⟨g, hgt, by simpa [namedBy_cons, hw] using hn⟩ f hft).trans_le h.sublist.length_le

/-- A frame of none of the kinds that has been placed leaves each kind with its one frame. -/
theorem Placed.oncePerKind {w : Frame → Bool} {ws : List (Frame → Bool)} {p : Proposal} {f : Frame} {s t : State}
    (h : Placed [w] p f s t) (honce : OncePerKind (w :: ws) s) (hf : namedBy ws f = false) : OncePerKind ws t := by
  intro v hv
  have hvf : v f = false := by
    by_contra hne
    have : namedBy ws f = true := List.any_eq_true.mpr ⟨v, hv, Bool.of_not_eq_false hne⟩
    rw [hf] at this; cases this
  exact (h.countP v hvf).trans (honce v (List.mem_cons_of_mem _ hv))

/-- A frame placed at the first withdrawal stays, the others finding none that waits. -/
theorem Placed.trans {w : Frame → Bool} {ws : List (Frame → Bool)} {p : Proposal} {f : Frame} {s t u : State}
    (h : Placed [w] p f s t) (h' : Unplaced ws t u) : Placed (w :: ws) p f s u where
  active := h.active
  waits := h.waits
  prop := h'.prop.trans h.prop
  hit := by
    obtain ⟨g, hg, hn⟩ := h.hit
    exact ⟨g, hg, by rw [namedBy_cons, show w g = true by simpa [namedBy] using hn]; rfl⟩
  length := h'.sublist.length_le.trans h.length
  room := h'.sublist.length_le.trans h.room
  countP := fun which hf => h'.sublist.countP_le.trans (h.countP which hf)
  mem := fun g hg => by
    refine (h.mem g (h'.sublist.subset hg)).imp_right fun ⟨hgs, hw⟩ => ⟨hgs, fun honce hf => ?_⟩
    obtain ⟨hwf, hwsf⟩ := namedBy_cons_eq_false.mp hf
    have hone := hw (oncePerKind_head honce) (by simpa [namedBy] using hwf)
    rw [h'.exact (h.oncePerKind honce hwsf)] at hg
    rw [namedBy_cons_eq_false]
    exact ⟨by simpa [namedBy] using hone, by simpa using (List.mem_filter.mp hg).2⟩
  keep := fun keep hkeep hf =>
    (h'.keep keep fun f hf => (namedBy_cons_eq_false.mp (hkeep f hf)).2).trans
      (h.keep keep (fun f hf => by simpa [namedBy] using (namedBy_cons_eq_false.mp (hkeep f hf)).1) hf)
  count := fun hf => by
    obtain ⟨hw, hws⟩ := namedBy_cons_eq_false.mp hf
    rw [count_eq_of_filter (h'.keep _ fun x hx => by rw [of_decide_eq_true hx]; exact hws)]
    exact h.count (by simpa [namedBy] using hw)
  exact := fun honce hf hsorted => by
    obtain ⟨hwf, hwsf⟩ := namedBy_cons_eq_false.mp hf
    rw [h'.exact (h.oncePerKind honce hwsf),
      h.exact (oncePerKind_head honce) (by simpa [namedBy] using hwf) hsorted,
      filter_insertFrame (by simp [hwsf]) (pairwise_filter_sorted _ hsorted), List.filter_filter]
    simp [namedBy, Bool.and_comm]

/-- A frame placed after a withdrawal that placed none. -/
theorem Unplaced.trans_placed {w : Frame → Bool} {ws : List (Frame → Bool)} {p : Proposal} {f : Frame} {s t u : State}
    (h : Unplaced [w] s t) (h' : Placed ws p f t u) : Placed (w :: ws) p f s u where
  active := by rw [← h.prop]; exact h'.active
  waits := h'.waits
  prop := by rw [h'.prop, h.prop]
  hit := by
    obtain ⟨g, hg, hn⟩ := h'.hit
    exact ⟨g, h.sublist.subset hg, by rw [namedBy_cons, hn, Bool.or_true]⟩
  length := h'.length.trans h.sublist.length_le
  room := h'.room
  countP := fun which hf => (h'.countP which hf).trans h.sublist.countP_le
  mem := fun g hg => by
    refine (h'.mem g hg).imp_right fun ⟨hgt, hn⟩ => ⟨h.sublist.subset hgt, fun honce hf => ?_⟩
    have hrest : OncePerKind ws t := fun v hv => h.sublist.countP_le.trans (honce v (List.mem_cons_of_mem _ hv))
    rw [h.exact (oncePerKind_head honce)] at hgt
    rw [namedBy_cons_eq_false]
    exact ⟨by simpa [namedBy] using (List.mem_filter.mp hgt).2, hn hrest (namedBy_cons_eq_false.mp hf).2⟩
  keep := fun keep hkeep hf =>
    (h'.keep keep (fun f hf => (namedBy_cons_eq_false.mp (hkeep f hf)).2) hf).trans
      (h.keep keep fun f hf => by simpa [namedBy] using (namedBy_cons_eq_false.mp (hkeep f hf)).1)
  count := fun hf => by
    obtain ⟨hw, hws⟩ := namedBy_cons_eq_false.mp hf
    rw [h'.count hws, count_eq_of_filter (h.keep _ fun x hx => by rw [of_decide_eq_true hx]; simpa [namedBy] using hw)]
  exact := fun honce hf hsorted => by
    have hrest : OncePerKind ws t := fun v hv => h.sublist.countP_le.trans (honce v (List.mem_cons_of_mem _ hv))
    rw [h'.exact hrest (namedBy_cons_eq_false.mp hf).2 (hsorted.sublist h.sublist),
      h.exact (oncePerKind_head honce), List.filter_filter]
    simp [namedBy, Bool.and_comm]

/-- Withdrawals either leave the proposal's frame as it was or have placed it. -/
theorem withdrawEach_outcome (ws : List (Frame → Bool)) (s : State) :
    Unplaced ws s (withdrawEach ws s) ∨ ∃ p f, Placed ws p f s (withdrawEach ws s) := by
  induction ws generalizing s with
  | nil => exact .inl (unplaced_refl fun _ _ => rfl)
  | cons w ws ih =>
    change Unplaced (w :: ws) s (withdrawEach ws (withdrawFrame w s)) ∨ _
    rcases withdrawFrame_outcome w s with h | ⟨p, f, h⟩
    · rcases ih (withdrawFrame w s) with h' | ⟨p, f, h'⟩
      · exact .inl (h.trans h')
      · exact .inr ⟨p, f, h.trans_placed h'⟩
    · rcases ih (withdrawFrame w s) with h' | ⟨q, g, h'⟩
      · exact .inr ⟨p, f, h.trans h'⟩
      · have hq : q = { p with outstanding := some { frame := f, queued := true } } := by
          have := h'.active
          rw [h.prop] at this
          exact (Activity.active.inj this).symm
        have := h'.waits
        rw [hq] at this
        cases this

/-! ### What they leave of the proposer (R62) -/

/-- Withdrawals of frames that are no proposal's leave the proposer, but that its frame may have found room. -/
theorem proposerStays_withdrawEach {ws : List (Frame → Bool)} (hws : ∀ f, isProposalFrame f = true → namedBy ws f = false)
    {s t : State} (h : Unplaced ws s t ∨ ∃ p f, Placed ws p f s t) : proposerStays s t := by
  rcases h with h | ⟨p, f, h⟩
  · refine ⟨fun _ => h.prop, fun p hp => ⟨p.outstanding, ⟨rfl, fun _ => rfl, fun o ho hq hproposal => ?_⟩, ?_⟩⟩
    · have hcount := count_eq_of_filter (h.keep (fun x => decide (x = o.frame)) fun x hx => by
        rw [of_decide_eq_true hx]; exact hws _ hproposal)
      refine iff_of_false (fun heq => ?_) (by omega)
      rw [ho] at heq
      rw [Option.some.inj heq] at hq
      cases hq
    · rw [h.prop]
      exact congrArg (fun a => { s.prop with activity := a }) hp
  · refine ⟨fun hnone => absurd h.active (hnone p), fun q hq => ?_⟩
    obtain rfl := Activity.active.inj (h.active.symm.trans hq)
    refine ⟨some { frame := f, queued := true }, ⟨by rw [h.waits]; rfl, fun hall => ?_, fun o ho hw hproposal => ?_⟩, h.prop⟩
    · have := hall _ h.waits
      cases this
    · obtain rfl := Option.some.inj (h.waits.symm.trans ho)
      exact iff_of_true rfl (h.count (hws _ hproposal))

/-! ### What they leave of the transmit queue (R115, R116) -/

/-- Withdrawals take each named frame from the queue, and the proposal's frame that waits for room takes its place (R62). -/
theorem withdraws_withdrawEach {ws : List (Frame → Bool)} (hws : ∀ f, isProposalFrame f = true → namedBy ws f = false)
    {s t : State} (honce : OncePerKind ws s)
    (hout : ∀ out, outstandingFrame s = some out → isProposalFrame out.frame = true) {which : Frame → Prop}
    (hwhich : ∀ f, namedBy ws f = true ↔ which f)
    (h : Unplaced ws s t ∨ ∃ p f, Placed ws p f s t) : withdraws which s t.line.queue := by
  have hnamed (f : Frame) : namedBy ws f = false ↔ ¬ which f := by rw [← hwhich, Bool.not_eq_true]
  have hkeepers {keep : Frame → Bool} (hkeep : ∀ g, keep g = true ↔ ¬ which g) : (fun g => !namedBy ws g) = keep := by
    funext g
    cases hk : keep g with
    | true => simp [(hnamed g).mpr ((hkeep g).mp hk)]
    | false =>
      have : namedBy ws g = true := by
        by_contra hn
        rw [(hkeep g).mpr ((hnamed g).mp (Bool.eq_false_iff.mpr hn))] at hk
        cases hk
      simp [this]
  rcases h with h | ⟨p, f, h⟩
  · refine ⟨fun g hg => ?_, fun keep hkeep => ?_, fun hnone => ?_, fun f hf _ hlen ⟨g, hg, hn⟩ => ?_⟩
    · rw [h.exact honce] at hg
      exact (hnamed g).mp (by simpa using (List.mem_filter.mp hg).2)
    · exact h.keep keep fun g hg => (hnamed g).mpr fun hw => hkeep g hg (.inl hw)
    · rw [h.exact honce]
      exact List.filter_eq_self.mpr fun g hg => by simpa using (hnamed g).mpr (hnone g hg)
    · have := h.full ⟨g, hg, (hwhich g).mpr hn⟩ f hf
      omega
  · have hwait : waitsForRoom s f := waitsForRoom_iff.mpr ⟨p, h.active, h.waits⟩
    have hf : namedBy ws f = false := by
      obtain ⟨out, ho, -, rfl⟩ := hwait
      exact hws _ (hout out ho)
    refine ⟨fun g hg => ?_, fun keep hkeep => ?_, fun hnone => ?_, fun f' hf' _ hlen _ => ?_⟩
    · rcases h.mem g hg with rfl | ⟨-, hn⟩
      · exact (hnamed g).mp hf
      · exact (hnamed g).mp (hn honce hf)
    · refine h.keep keep (fun g hg => (hnamed g).mpr fun hw => hkeep g hg (.inl hw)) ?_
      by_contra hk
      exact hkeep f (Bool.of_not_eq_false hk) (.inr hwait)
    · obtain ⟨g, hg, hn⟩ := h.hit
      exact absurd ((hwhich g).mp hn) (hnone g hg)
    · obtain ⟨q, hq, ho⟩ := waitsForRoom_iff.mp hf'
      obtain rfl := Activity.active.inj (h.active.symm.trans hq)
      obtain rfl : f = f' := by simpa using h.waits.symm.trans ho
      exact ⟨h.count hf, fun hsorted keep hkeep => by rw [h.exact honce hf hsorted, hkeepers hkeep]⟩

/-! ### What they leave of the line (R116) -/

theorem offerWaiting_line (s : State) : ∃ q, (offerWaiting s).line = { s.line with queue := q } := by
  rcases offerWaiting_cases s with ⟨h, -⟩ | ⟨p, f, -, -, -, h⟩
  · exact ⟨s.line.queue, by rw [h]⟩
  · exact ⟨_, by rw [h]; rfl⟩

theorem driveEnd_congr {s t : State} (hclock : t.clock = s.clock) (hctl : t.ctl = s.ctl) (a : Attempt) :
    driveEnd t a = driveEnd s a := by
  simp only [driveEnd, hclock, hctl]

theorem lt_driveEnd (s : State) (a : Attempt) : s.clock.osc < driveEnd s a := by
  rw [← characterEnd_eq]
  exact Nat.lt_of_lt_of_le (Nat.lt_succ_self _) (Nat.le_max_right _ _)

theorem attemptMatches_false {w : Frame → Bool} {s : State}
    (h : ∀ a, s.line.attempt = some a → a.reply = true ∨ w a.entry = false) : attemptMatches w s = false := by
  unfold attemptMatches
  split
  next a ha => rcases h a ha with h | h <;> simp [h]
  next => rfl

/-- The line without a frame that is not on it: the attempt goes on. -/
theorem lineWithout_stays {w : Frame → Bool} {s : State} (h : attemptMatches w s = false) :
    lineWithout w s = { s.line with queue := s.line.queue.eraseP w } := by
  unfold lineWithout
  rw [if_neg (by simp [h])]

/-- The line without the frame that is on it: the attempt is aborted (R116). -/
theorem lineWithout_aborts {w : Frame → Bool} {s : State} {a : Attempt} (ha : s.line.attempt = some a)
    (hr : a.reply = false) (hw : w a.entry = true) : lineWithout w s =
      { s.line with queue := s.line.queue.eraseP w, attempt := none, driveUntil := some (driveEnd s a) } := by
  have hmatch : attemptMatches w s = true := by simp [attemptMatches, ha, hr, hw]
  unfold lineWithout
  rw [if_pos hmatch, abortAttempt_eq, ha]
  simp [characterEnd_eq]

/-- What withdrawals leave of the line beside its queue. -/
structure LineAfter (ws : List (Frame → Bool)) (s t : State) : Prop where
  rest : lineBystanders s t
  stays : attemptStays (namedBy ws · = true) s t
  aborted : ∀ a, s.line.attempt = some a → a.reply = false → a.entry ∈ s.line.queue → namedBy ws a.entry = true →
    t.line.attempt = none ∧ t.line.driveUntil = some (driveEnd s a)

theorem lineAfter_withdrawFrame (w : Frame → Bool) (s : State) : LineAfter [w] s (withdrawFrame w s) := by
  cases hany : s.line.queue.any w with
  | false =>
    rw [withdrawFrame_none hany]
    refine ⟨⟨rfl, rfl, rfl, rfl, rfl, rfl, rfl, rfl⟩, fun _ => ⟨rfl, rfl⟩, fun a _ _ hmem hn => ?_⟩
    exact absurd (by simpa [namedBy] using hn) (List.any_eq_false.mp hany _ hmem)
  | true =>
    obtain ⟨q, hq⟩ := offerWaiting_line (s.setLine (lineWithout w s))
    rw [State.setLine_line, ← withdrawFrame_hit hany] at hq
    refine ⟨?_, fun h => ?_, fun a ha hr _ hn => ?_⟩
    · obtain ⟨attempt, drive, hline, -⟩ := lineWithout_eq w s
      unfold lineBystanders
      rw [hq, hline]
      exact ⟨rfl, rfl, rfl, rfl, rfl, rfl, rfl, rfl⟩
    · rw [hq, lineWithout_stays (attemptMatches_false fun a ha => by simpa [namedBy] using h a ha)]
      exact ⟨rfl, rfl⟩
    · rw [hq, lineWithout_aborts ha hr (by simpa [namedBy] using hn)]
      exact ⟨rfl, rfl⟩

theorem lineBystanders_trans {s t u : State} (h : lineBystanders s t) (h' : lineBystanders t u) : lineBystanders s u := by
  obtain ⟨h1, h2, h3, h4, h5, h6, h7, h8⟩ := h
  obtain ⟨g1, g2, g3, g4, g5, g6, g7, g8⟩ := h'
  exact ⟨g1.trans h1, g2.trans h2, g3.trans h3, g4.trans h4, g5.trans h5, g6.trans h6, g7.trans h7, g8.trans h8⟩

theorem withdrawFrame_clock (w : Frame → Bool) (s : State) : (withdrawFrame w s).clock = s.clock := by
  rw [withdrawFrame_frame]; rfl

theorem withdrawFrame_ctl (w : Frame → Bool) (s : State) : (withdrawFrame w s).ctl = s.ctl := by
  rw [withdrawFrame_frame]; rfl

/-- Withdrawals change the Line Controller and the Proposer Unit alone. -/
theorem withdrawEach_frame (ws : List (Frame → Bool)) (s : State) :
    withdrawEach ws s = (s.setLine (withdrawEach ws s).line).setProp (withdrawEach ws s).prop := by
  induction ws generalizing s with
  | nil => rfl
  | cons w ws ih =>
    have hframe := ih (withdrawFrame w s)
    change withdrawEach ws (withdrawFrame w s) =
      (s.setLine (withdrawEach ws (withdrawFrame w s)).line).setProp (withdrawEach ws (withdrawFrame w s)).prop
    generalize withdrawEach ws (withdrawFrame w s) = t at hframe ⊢
    rw [hframe, withdrawFrame_frame w s]
    rfl

/-- A withdrawal leaves a frame of another kind where it is. -/
theorem mem_withdrawFrame {w : Frame → Bool} {s : State} {f : Frame} (hf : w f = false) (hmem : f ∈ s.line.queue) :
    f ∈ (withdrawFrame w s).line.queue := by
  have hsingle : ∀ x, decide (x = f) = true → namedBy [w] x = false := fun x hx => by
    rw [of_decide_eq_true hx]
    simpa [namedBy] using hf
  rcases withdrawFrame_outcome w s with h | ⟨p, g, h⟩
  · exact (mem_of_filter (h.keep _ hsingle)).mpr hmem
  · by_cases heq : g = f
    · subst heq
      rw [← List.count_pos_iff, h.count (by simpa [namedBy] using hf)]
      exact Nat.succ_pos _
    · exact (mem_of_filter (h.keep _ hsingle (decide_eq_false heq))).mpr hmem

theorem lineAfter_withdrawEach (ws : List (Frame → Bool)) (s : State) : LineAfter ws s (withdrawEach ws s) := by
  induction ws generalizing s with
  | nil => exact ⟨⟨rfl, rfl, rfl, rfl, rfl, rfl, rfl, rfl⟩, fun _ => ⟨rfl, rfl⟩, fun _ _ _ _ hn => by cases hn⟩
  | cons w ws ih =>
    have hfirst := lineAfter_withdrawFrame w s
    have hrest := ih (withdrawFrame w s)
    have hone (a : Attempt) (ha : a.reply = true ∨ ¬ namedBy (w :: ws) a.entry = true) :
        (a.reply = true ∨ ¬ namedBy [w] a.entry = true) ∧ (a.reply = true ∨ ¬ namedBy ws a.entry = true) := by
      simp only [Bool.not_eq_true, namedBy_cons_eq_false] at ha ⊢
      exact ⟨ha.imp_right fun h => ⟨h.1, rfl⟩, ha.imp_right (·.2)⟩
    refine ⟨lineBystanders_trans hfirst.rest hrest.rest, fun h => ?_, fun a ha hr hmem hn => ?_⟩
    · obtain ⟨hatt, hdrive⟩ := hfirst.stays fun a ha => (hone a (h a ha)).1
      obtain ⟨hatt', hdrive'⟩ := hrest.stays fun a ha => (hone a (h a (hatt ▸ ha))).2
      exact ⟨hatt'.trans hatt, hdrive'.trans hdrive⟩
    · cases hw : w a.entry with
      | true =>
        obtain ⟨hatt, hdrive⟩ := hfirst.aborted a ha hr hmem (by simpa [namedBy] using hw)
        obtain ⟨hatt', hdrive'⟩ := hrest.stays fun b hb => by rw [hatt] at hb; cases hb
        exact ⟨hatt'.trans hatt, hdrive'.trans hdrive⟩
      | false =>
        have hws : namedBy ws a.entry = true := by simpa [namedBy_cons, hw] using hn
        obtain ⟨hatt, -⟩ := hfirst.stays fun b hb => by
          obtain rfl := Option.some.inj (ha.symm.trans hb)
          exact .inr (by simp [namedBy, hw])
        have hkept : a.entry ∈ (withdrawFrame w s).line.queue := mem_withdrawFrame hw hmem
        rw [← driveEnd_congr (withdrawFrame_clock w s) (withdrawFrame_ctl w s) a]
        exact hrest.aborted a (hatt.trans ha) hr hkept hws

/-- A frame withdrawn while it is on the line is aborted there (R116). -/
theorem abortedOnLine_withdrawEach {ws : List (Frame → Bool)} {s t : State} (h : LineAfter ws s t)
    (hclock : t.clock = s.clock) (hctl : t.ctl = s.ctl) {which : Frame → Prop} (hwhich : ∀ f, which f → namedBy ws f = true) :
    abortedOnLine which s t := by
  intro a ha hr hmem hn
  obtain ⟨hatt, hdrive⟩ := h.aborted a ha hr hmem (hwhich _ hn)
  refine ⟨hatt, hdrive, fun hreset => (ltxDominant_idle (by rw [hctl]; exact hreset) hatt).mpr ⟨_, hdrive, ?_⟩⟩
  rw [hclock]
  exact lt_driveEnd s a

theorem attemptStays_mono {gone gone' : Frame → Prop} {s t : State} (h : attemptStays gone s t)
    (hsub : ∀ f, gone f → gone' f) : attemptStays gone' s t :=
  fun ha => h fun a hs => (ha a hs).imp_right (mt (hsub _))

end Sys2Proof.Machine


/-! PROOFS. Decisions at a target, and the epoch of an undecided record (R28, R37 to R41, R43, R48). -/

namespace Sys2Proof.Machine

/-! ### A state whose line and proposal are what withdrawals leave -/

/-- The line and the proposal are what withdrawals leave, at the same instant. -/
structure WithdrawnTo (ws : List (Frame → Bool)) (s t : State) : Prop where
  line : t.line = (withdrawEach ws s).line
  prop : t.prop = (withdrawEach ws s).prop
  clock : t.clock = s.clock
  ctl : t.ctl = s.ctl

theorem WithdrawnTo.outcome {ws : List (Frame → Bool)} {s t : State} (h : WithdrawnTo ws s t) :
    Unplaced ws s t ∨ ∃ p f, Placed ws p f s t := by
  rcases withdrawEach_outcome ws s with h' | ⟨p, f, h'⟩
  · refine .inl ⟨h.prop.trans h'.prop, ?_, ?_, ?_, h'.full⟩ <;> rw [h.line]
    exacts [h'.sublist, h'.keep, h'.exact]
  · refine .inr ⟨p, f, h'.active, h'.waits, h.prop.trans h'.prop, h'.hit, ?_, ?_, ?_, ?_, ?_, ?_, ?_⟩ <;> rw [h.line]
    exacts [h'.length, h'.room, h'.countP, h'.mem, h'.keep, h'.count, h'.exact]

theorem WithdrawnTo.lineAfter {ws : List (Frame → Bool)} {s t : State} (h : WithdrawnTo ws s t) : LineAfter ws s t := by
  have h' := lineAfter_withdrawEach ws s
  refine ⟨?_, ?_, ?_⟩
  · unfold lineBystanders
    rw [h.line]
    exact h'.rest
  · unfold attemptStays
    rw [h.line]
    exact h'.stays
  · rw [h.line]
    exact h'.aborted

theorem WithdrawnTo.aborted {ws : List (Frame → Bool)} {s t : State} (h : WithdrawnTo ws s t) {which : Frame → Prop}
    (hwhich : ∀ f, which f → namedBy ws f = true) : abortedOnLine which s t :=
  abortedOnLine_withdrawEach h.lineAfter h.clock h.ctl hwhich

/-! ### The INQUIRE of one set withdrawn (R37) -/

theorem namedBy_singleton (w : Frame → Bool) (f : Frame) : namedBy [w] f = w f := Bool.or_false _

theorem namedBy_inquire_of_proposal (set : SetId) (f : Frame) (h : isProposalFrame f = true) :
    namedBy [isInquireFor set] f = false := by
  rw [namedBy_singleton]
  by_contra hne
  have hkind := isProposalFrame_iff.mp h
  rw [isInquireFor_iff.mp (Bool.of_not_eq_false hne)] at hkind
  simp [Body.kind] at hkind

/-- The INQUIRE of a set withdrawn leaves the proposer, but that its frame may have found room. -/
theorem WithdrawnTo.proposerStays {set : SetId} {s t : State} (h : WithdrawnTo [isInquireFor set] s t) : proposerStays s t :=
  proposerStays_withdrawEach (namedBy_inquire_of_proposal set) h.outcome

theorem WithdrawnTo.withdraws {set : SetId} {s t : State} (h : WithdrawnTo [isInquireFor set] s t)
    (honce : s.line.queue.countP (isInquireFor set) ≤ 1)
    (hout : ∀ out, outstandingFrame s = some out → isProposalFrame out.frame = true) :
    withdraws (isInquireFor set · = true) s t.line.queue := by
  refine withdraws_withdrawEach (namedBy_inquire_of_proposal set) (fun w hw => ?_) hout (fun f => ?_) h.outcome
  · rwa [List.mem_singleton.mp hw]
  · rw [namedBy_singleton]

theorem WithdrawnTo.attemptStays {set : SetId} {s t : State} (h : WithdrawnTo [isInquireFor set] s t) :
    attemptStays (isInquireFor set · = true) s t :=
  attemptStays_mono h.lineAfter.stays fun f hf => by rwa [namedBy_singleton] at hf

theorem WithdrawnTo.attempt_idle {ws : List (Frame → Bool)} {s t : State} (h : WithdrawnTo ws s t)
    (hidle : s.line.attempt = none) : t.line.attempt = s.line.attempt ∧ t.line.driveUntil = s.line.driveUntil :=
  h.lineAfter.stays fun a ha => by rw [hidle] at ha; cases ha

theorem WithdrawnTo.length {ws : List (Frame → Bool)} {s t : State} (h : WithdrawnTo ws s t) :
    t.line.queue.length ≤ s.line.queue.length := by
  rcases h.outcome with h | ⟨p, f, h⟩
  · exact h.sublist.length_le
  · exact h.length

/-! ### The blocks beside the records, the line and the proposal -/

/-- The channels, network time, the members and the blocks beside stay. -/
structure OthersStay (s t : State) : Prop where
  beside : bystanders s t
  chans : t.chans = s.chans
  time : t.time = s.time
  memb : t.memb = s.memb
  clock : t.clock = s.clock

theorem othersStay_of_frame {s t : State} {x : Participant} {l : LineController} {p : Proposer}
    (h : t = ((s.setPart x).setLine l).setProp p) : OthersStay s t ∧ t.notes = s.notes := by
  subst h
  exact ⟨⟨⟨rfl, rfl, rfl, rfl, rfl⟩, rfl, rfl, rfl, rfl⟩, rfl⟩

theorem OthersStay.raise {s t : State} (h : OthersStay s t) (n : Notice) : OthersStay s (raise n t) := by
  obtain ⟨⟨hctl, hcapt, hport, hpending, henable⟩, hchans, htime, hmemb, hclock⟩ := h
  exact ⟨⟨hctl, hcapt, hport, hpending, henable⟩, hchans, htime, hmemb, hclock⟩

theorem freeRecord_stays (i : Fin 4) (s : State) : OthersStay s (freeRecord i s) ∧ (freeRecord i s).notes = s.notes :=
  othersStay_of_frame (freeRecord_frame i s)

/-! ### A record freed (R25, R27, R37) -/

theorem apart_setPart (x : Participant) : Apart (·.setPart x) where
  clock _ := rfl
  ctl _ := rfl
  prop _ := rfl
  line _ := rfl
  setLine _ _ := rfl
  setProp _ _ := rfl

theorem freedAt_frame (i : Fin 4) (r : SetRecord) (s : State) : freedAt i r s = s.setPart (freedAt i r s).part := by
  unfold freedAt
  split <;> rfl

theorem withdrawnTo_setPart (x : Participant) (w : Frame → Bool) (s : State) :
    WithdrawnTo [w] s (withdrawFrame w (s.setPart x)) := by
  rw [(apart_setPart x).withdrawFrame w s]
  exact ⟨rfl, rfl, withdrawFrame_clock w s, withdrawFrame_ctl w s⟩

theorem freeRecord_withdrawn {i : Fin 4} {r : SetRecord} {s : State} (hi : s.part.table[i] = some r) :
    WithdrawnTo [isInquireFor r.set] s (freeRecord i s) := by
  rw [freeRecord_eq hi, freedAt_frame]
  exact withdrawnTo_setPart _ _ s

theorem withdrawFrame_part (w : Frame → Bool) (s : State) : (withdrawFrame w s).part = s.part := by
  rw [withdrawFrame_frame]; rfl

theorem freeRecord_part {i : Fin 4} {r : SetRecord} {s : State} (hi : s.part.table[i] = some r) :
    (freeRecord i s).part = (freedAt i r s).part := by
  rw [freeRecord_eq hi, withdrawFrame_part]

theorem freedAt_table (i : Fin 4) (r : SetRecord) (s : State) :
    (freedAt i r s).part.table = s.part.table.set i.val none := by
  unfold freedAt
  split <;> rfl

theorem freedAt_closed (i : Fin 4) (r : SetRecord) (s : State) : (freedAt i r s).part.closed = s.part.closed := by
  unfold freedAt
  split <;> rfl

/-- An undecided record goes, with SET_DROPPED, its claims and its INQUIRE. -/
structure Drops (i : Fin 4) (r : SetRecord) (s t : State) : Prop where
  table : t.part.table = s.part.table.set i.val none
  claims : ∀ c : Fin 16, t.part.claims[c] =
    if r.items.any (onChannel c) = true ∧ s.part.claims[c] = some r.set then none else s.part.claims[c]
  pending : isPending .setDropped t = true
  raises : raisesOnly [.setDropped] s t
  stays : OthersStay s t
  withdrawn : WithdrawnTo [isInquireFor r.set] s t

theorem Drops.position {i : Fin 4} {r : SetRecord} {s t : State} (h : Drops i r s t) : t.part.table[i] = none := by
  simp [h.table]

theorem Drops.others {i : Fin 4} {r : SetRecord} {s t : State} (h : Drops i r s t) (j : Fin 4) (hj : j ≠ i) :
    t.part.table[j] = s.part.table[j] := by
  have : i.val ≠ j.val := fun he => hj (Fin.ext he.symm)
  simp [h.table, Vector.getElem_set_ne _ _ this]

theorem undecided_ne_staging {r : SetRecord} (h : undecided r) : r.state ≠ .staging := by
  rcases h with h | h <;> simp [h]

theorem drops_freeRecord {i : Fin 4} {r : SetRecord} {s : State} (hi : s.part.table[i] = some r) (hr : undecided r) :
    Drops i r s (raise .setDropped (freeRecord i s)) where
  table := by rw [raise_part, freeRecord_part hi, freedAt_table]
  claims c := by
    rw [raise_part, freeRecord_part hi, freedAt_claim]
    simp only [ne_eq, undecided_ne_staging hr, not_false_eq_true, true_and]
  pending := isPending_raise_self (by decide) _
  raises := raisesOnly_trans (raisesOnly_congr _ (freeRecord_stays i s).2 (freeRecord_stays i s).1.beside.2.1)
    (raisesOnly_raise_self _ _)
  stays := (freeRecord_stays i s).1.raise _
  withdrawn := ⟨(freeRecord_withdrawn hi).line, (freeRecord_withdrawn hi).prop, (freeRecord_withdrawn hi).clock,
    (freeRecord_withdrawn hi).ctl⟩

/-- The Participant Unit's table and claims beside a changed recently-closed list. -/
theorem Drops.addClosed {i : Fin 4} {r : SetRecord} {s t : State} (h : Drops i r s t) (set : SetId) (kind : ClosureKind) :
    Drops i r s (addClosed set kind t) := by
  rw [addClosed_eq]
  obtain ⟨htable, hclaims, hpending, hraises, ⟨hbeside, hchans, htime, hmemb, hclock⟩, hline, hprop, hcl, hctl⟩ := h
  exact ⟨htable, hclaims, hpending, hraises, ⟨hbeside, hchans, htime, hmemb, hclock⟩, hline, hprop, hcl, hctl⟩

theorem expireRecord_eq {i : Fin 4} {r : SetRecord} {s : State} (hi : s.part.table[i] = some r) :
    expireRecord i s = addClosed r.set .expired (raise .setDropped (freeRecord i s)) := by
  simp only [expireRecord, hi]
  rfl

theorem expireRecord_drops {i : Fin 4} {r : SetRecord} {s : State} (hi : s.part.table[i] = some r) (hr : undecided r) :
    Drops i r s (expireRecord i s) := by
  rw [expireRecord_eq hi]
  exact (drops_freeRecord hi hr).addClosed _ _

theorem freeRecord_closed {i : Fin 4} {r : SetRecord} {s : State} (hi : s.part.table[i] = some r) :
    (freeRecord i s).part.closed = s.part.closed := by
  rw [freeRecord_part hi, freedAt_closed]

theorem expireRecord_closed {i : Fin 4} {r : SetRecord} {s : State} (hi : s.part.table[i] = some r) :
    (expireRecord i s).part.closed = closedWith { set := r.set, kind := .expired, missedSent := false } s.part.closed := by
  rw [expireRecord_eq hi, addClosed_eq]
  change closedWith _ (freeRecord i s).part.closed = _
  rw [freeRecord_closed hi]

/-! ### A record armed (R38) -/

theorem armRecord_eq {i : Fin 4} {r : SetRecord} {s : State} (hi : s.part.table[i] = some r) :
    armRecord i s =
      withdrawFrame (isInquireFor r.set) (putRecord i (some { r with state := .armed, timer := none }) s) := by
  simp only [armRecord, hi]

theorem armRecord_withdrawn {i : Fin 4} {r : SetRecord} {s : State} (hi : s.part.table[i] = some r) :
    WithdrawnTo [isInquireFor r.set] s (armRecord i s) := by
  rw [armRecord_eq hi, putRecord_frame]
  exact withdrawnTo_setPart _ _ s

theorem armRecord_part {i : Fin 4} {r : SetRecord} {s : State} (hi : s.part.table[i] = some r) :
    (armRecord i s).part = (putRecord i (some { r with state := .armed, timer := none }) s).part := by
  rw [armRecord_eq hi, withdrawFrame_part]

theorem armRecord_stays {i : Fin 4} {r : SetRecord} {s : State} (hi : s.part.table[i] = some r) :
    OthersStay s (armRecord i s) ∧ (armRecord i s).notes = s.notes := by
  rw [armRecord_eq hi, withdrawFrame_frame, putRecord_frame]
  exact othersStay_of_frame rfl

/-! ### COMMIT, ABORT and DECISION, as received (R28, R38 to R40) -/

theorem setFormed {set : SetId} (h : set.seq ≠ 0) : set.formed = true := bne_iff_ne.mpr h

theorem exec_commit {s : State} {src : Station} {set : SetId} (h : memberReceives s src) (hseq : set.seq ≠ 0) :
    exec (.commit src set) s = .next (ifProposer src set (commitEffect false set) (delivered src s)) :=
  have hform : (Body.commit set).formed src = true := setFormed hseq
  congrArg _ (receiveFrame_delivered h hform _)

theorem exec_abort {s : State} {src : Station} {set : SetId} (h : memberReceives s src) (hseq : set.seq ≠ 0)
    (reason : AbortReason) :
    exec (.abort src set reason) s = .next (ifProposer src set (abortEffect set) (delivered src s)) :=
  have hform : (Body.abort set reason).formed src = true := setFormed hseq
  congrArg _ (receiveFrame_delivered h hform _)

theorem exec_decision {s : State} {src : Station} {set : SetId} (h : memberReceives s src) (hseq : set.seq ≠ 0)
    (dest : Station) (outcome : DecisionOutcome) :
    exec (.decision src dest set outcome) s =
      .next (ifAddressed dest (ifProposer src set (decisionEffect set outcome)) (delivered src s)) :=
  have hform : (Body.decision set outcome).formed src = true := setFormed hseq
  congrArg _ (receiveFrame_delivered h hform _)

/-- What a record is to a decision: undecided, STAGING or ARMED. -/
theorem awaitsDecision_eq_false {r : SetRecord} (h : ¬ undecided r) : awaitsDecision r = false :=
  Bool.eq_false_iff.mpr (mt awaitsDecision_iff.mp h)

theorem holdsRecord_at {s : State} {i : Fin 4} {r : SetRecord} (hi : s.part.table[i] = some r) (which : SetRecord → Bool) :
    holdsRecord which s i = which r := by
  cases h : which r with
  | true => exact holdsRecord_iff.mpr ⟨r, hi, h⟩
  | false =>
    refine Bool.eq_false_iff.mpr fun hne => ?_
    obtain ⟨q, hq, hw⟩ := holdsRecord_iff.mp hne
    obtain rfl := Option.some.inj (hi.symm.trans hq)
    rw [h] at hw
    cases hw

theorem expiryDue_at {s : State} {i : Fin 4} {r : SetRecord} (hi : s.part.table[i] = some r) :
    expiryDue s i = true ↔ undecided r ∧ r.self = false ∧ ∃ e, r.epoch = some e ∧ 0 ≤ sdiff s.time.now e := by
  refine expiryDue_iff.trans ⟨?_, fun ⟨hr, hself, e, he, hle⟩ => ⟨r, e, hi, he, ⟨hr, hself⟩, hle⟩⟩
  rintro ⟨q, e, hq, he, ⟨hr, hself⟩, hle⟩
  obtain rfl := Option.some.inj (hi.symm.trans hq)
  exact ⟨hr, hself, e, he, hle⟩

section record
variable {s : State} {set : SetId} {i : Fin 4} {r : SetRecord}

/-- A commit for a record that has nothing to decide: it is counted, but a DECISION not at an ARMED one (R38, R40). -/
theorem commitEffect_decided (h : isRecord s set i r) (hr : ¬ undecided r) (quiet : Bool) :
    commitEffect quiet set s = if quiet = true ∧ r.state = .armed then s else oneAnomaly s := by
  have hdue : ¬ expiryDue s i = true := fun hd => hr ((expiryDue_at h.1).mp hd).1
  simp only [commitEffect, findRecord_isRecord h, if_neg hdue, holdsRecord_at h.1, awaitsDecision_eq_false hr,
    Bool.false_eq_true, if_false, Bool.and_eq_true, beq_iff_eq]
  rfl

/-- A commit before the epoch arms the record (R38). -/
theorem commitEffect_arms (h : isRecord s set i r) (hr : undecided r) {e : NetTime} (he : r.epoch = some e)
    (hbefore : sdiff s.time.now e < 0) (quiet : Bool) : commitEffect quiet set s = armRecord i s := by
  have hdue : ¬ expiryDue s i = true := fun hd => by
    obtain ⟨-, -, b, hb, hle⟩ := (expiryDue_at h.1).mp hd
    obtain rfl := Option.some.inj (he.symm.trans hb)
    omega
  simp only [commitEffect, findRecord_isRecord h, if_neg hdue, holdsRecord_at h.1, awaitsDecision_iff.mpr hr, if_true]

/-- A commit at or past the epoch finds the record expired (R41, R43). -/
theorem commitEffect_late (h : isRecord s set i r) (hr : undecided r) (hself : r.self = false) {e : NetTime}
    (he : r.epoch = some e) (hafter : 0 ≤ sdiff s.time.now e) (quiet : Bool) :
    commitEffect quiet set s = answerMissed set (expireRecord i s) := by
  simp only [commitEffect, findRecord_isRecord h, if_pos ((expiryDue_at h.1).mpr ⟨hr, hself, e, he, hafter⟩)]

theorem commitEffect_absent (h : noRecord s set) (quiet : Bool) : commitEffect quiet set s = answerMissed set s := by
  simp only [commitEffect, findRecord_noRecord h]

theorem refuseDecisionEffect_undecided (h : isRecord s set i r) (hr : undecided r) :
    refuseDecisionEffect set s = raise .setDropped (freeRecord i s) := by
  simp only [refuseDecisionEffect, findRecord_isRecord h, holdsRecord_at h.1, awaitsDecision_iff.mpr hr, if_true]

theorem refuseDecisionEffect_decided (h : isRecord s set i r) (hr : ¬ undecided r) :
    refuseDecisionEffect set s = oneAnomaly s := by
  simp only [refuseDecisionEffect, findRecord_isRecord h, holdsRecord_at h.1, awaitsDecision_eq_false hr,
    Bool.false_eq_true, if_false]
  rfl

theorem refuseDecisionEffect_absent (h : noRecord s set) : refuseDecisionEffect set s = s := by
  simp only [refuseDecisionEffect, findRecord_noRecord h]

theorem abortEffect_undecided (h : isRecord s set i r) (hr : undecided r) :
    abortEffect set s = raise .setDropped (freeRecord i s) := by
  simp only [abortEffect, findRecord_isRecord h, holdsRecord_at h.1, awaitsDecision_iff.mpr hr, if_true]

theorem abortEffect_staging (h : isRecord s set i r) (hst : r.state = .staging) : abortEffect set s = freeRecord i s := by
  have hr : ¬ undecided r := fun hr => undecided_ne_staging hr hst
  simp only [abortEffect, findRecord_isRecord h, holdsRecord_at h.1, awaitsDecision_eq_false hr, hst, Bool.false_eq_true,
    if_false, beq_self_eq_true, if_true]

theorem abortEffect_armed (h : isRecord s set i r) (hst : r.state = .armed) : abortEffect set s = oneAnomaly s := by
  have hr : ¬ undecided r := by simp [undecided, hst]
  have hno : ¬ (r.state == .staging) = true := by simp [hst]
  simp only [abortEffect, findRecord_isRecord h, holdsRecord_at h.1, awaitsDecision_eq_false hr, if_neg hno, Bool.false_eq_true,
    if_false]
  rfl

theorem abortEffect_absent (h : noRecord s set) : abortEffect set s = s := by
  simp only [abortEffect, findRecord_noRecord h]

/-- A commit that finds no EXPIRED entry without an answer is not answered (R41). -/
theorem answerMissed_none (h : ∀ e ∈ s.part.closed, e.set = set → e.kind = .expired → e.missedSent = true) :
    answerMissed set s = s := by
  have hany : ¬ s.part.closed.any (fun e => e.set == set && e.kind == .expired && !e.missedSent) = true := by
    simp only [List.any_eq_true, Bool.and_eq_true, beq_iff_eq, Bool.not_eq_true']
    rintro ⟨e, he, ⟨hset, hkind⟩, hsent⟩
    rw [h e he hset hkind] at hsent
    cases hsent
  rw [answerMissed, if_neg hany]

/-- A commit that finds an EXPIRED entry is answered with one MISSED, when the queue has room (R41). -/
theorem answerMissed_some (h : ∃ e ∈ s.part.closed, e.set = set ∧ e.kind = .expired ∧ e.missedSent = false) :
    answerMissed set s =
      if s.line.queue.length < 12 then
        (s.setLine { s.line with
          queue := insertFrame { src := s.ctl.number, dest := some set.proposer, body := .missed set } s.line.queue }).setPart
            { s.part with closed := s.part.closed.map fun e =>
                if e.set = set ∧ e.kind = .expired then { e with missedSent := true } else e }
      else s := by
  have hany : s.part.closed.any (fun e => e.set == set && e.kind == .expired && !e.missedSent) = true := by
    simpa only [List.any_eq_true, Bool.and_eq_true, beq_iff_eq, Bool.not_eq_true', and_assoc] using h
  rw [answerMissed, if_pos hany]
  by_cases hroom : s.line.queue.length < 12
  · rw [if_pos hroom, if_pos (queueHasRoom_iff.mpr hroom), offer_accepted (queueHasRoom_iff.mpr hroom)]
    rfl
  · rw [if_neg hroom, if_neg (mt queueHasRoom_iff.mp hroom)]

end record

theorem decisionEffect_refused {outcome : DecisionOutcome} (h : outcome ≠ .committed) (set : SetId) (s : State) :
    decisionEffect set outcome s = refuseDecisionEffect set s := by
  cases outcome with
  | committed => exact absurd rfl h
  | aborted | unknown => rfl

/-- Settles O31: each decision frame by what its set and its source find. -/
theorem decisionsOnOtherRecords : Obligations.DecisionsOnOtherRecords := by
  intro s src set reason outcome hm hseq u own
  refine ⟨fun hother => ?_, fun dest hd => ?_, fun hown i r hr => ⟨fun hst => ?_, fun hst => ?_⟩, fun hown hno => ?_⟩
  · rw [exec_commit hm hseq, exec_abort hm hseq, exec_decision hm hseq, ifAddressed_own]
    simp only [ifProposer_other hother]
    exact ⟨rfl, rfl, rfl⟩
  · rw [exec_decision hm hseq, ifAddressed_other hd]
  · have hu : isRecord u set i r := hr
    have hdecided : ¬ undecided r := by simp [undecided, hst]
    rw [exec_commit hm hseq, exec_abort hm hseq, exec_decision hm hseq, ifAddressed_own]
    simp only [ifProposer_own hown]
    refine ⟨?_, ?_, ?_⟩
    · rw [commitEffect_decided hu hdecided]; rfl
    · rw [abortEffect_armed hu hst]
    · cases outcome with
      | committed => exact congrArg _ ((commitEffect_decided hu hdecided true).trans (if_pos ⟨rfl, hst⟩))
      | aborted | unknown => exact congrArg _ (refuseDecisionEffect_decided hu hdecided)
  · have hu : isRecord u set i r := hr
    have hdecided : ¬ undecided r := by simp [undecided, hst]
    have hnot : r.state ≠ .armed := by simp [hst]
    rw [exec_commit hm hseq, exec_abort hm hseq, exec_decision hm hseq, ifAddressed_own]
    simp only [ifProposer_own hown]
    refine ⟨?_, ?_, fun hq => ?_⟩
    · rw [commitEffect_decided hu hdecided]; rfl
    · cases outcome with
      | committed => exact congrArg _ ((commitEffect_decided hu hdecided true).trans (if_neg fun h => hnot h.2))
      | aborted | unknown => exact congrArg _ (refuseDecisionEffect_decided hu hdecided)
    · rw [abortEffect_staging hu hst]
      obtain ⟨hi, rfl, -⟩ := hr
      exact congrArg _ (freeRecord_staging hi hst hq)
  · have hu : noRecord u set := hno
    rw [exec_commit hm hseq, exec_abort hm hseq, exec_decision hm hseq, exec_decision hm hseq, ifAddressed_own, ifAddressed_own]
    simp only [ifProposer_own hown]
    refine ⟨congrArg _ (abortEffect_absent hu), fun hrefused => ?_, fun hclosed => ?_⟩
    · rw [decisionEffect_refused hrefused, refuseDecisionEffect_absent hu]
    · have hnone : answerMissed set u = u := answerMissed_none fun e he hset hkind => by
        rw [hclosed e he hset] at hkind
        cases hkind
      exact ⟨congrArg _ ((commitEffect_absent hu _).trans hnone), congrArg _ ((commitEffect_absent hu _).trans hnone)⟩

/-! ### Decisions on an undecided record (R38 to R41) -/

theorem delivered_enable (src : Station) (s : State) : (delivered src s).notes.enable = s.notes.enable := by
  simp only [delivered, heardFrom]
  split <;> rfl

/-- What stays from the delivery of a frame on stays from its beginning on. -/
theorem bystanders_of_delivered {src : Station} {s t : State} (h : bystanders (delivered src s) t) : bystanders s t := by
  obtain ⟨hctl, hcapt, hport, hpending, henable⟩ := h
  exact ⟨hctl, hcapt, hport, hpending, henable.trans (delivered_enable src s)⟩

/-- Settles O30: before its epoch the record is armed or freed, and its INQUIRE alone leaves the queue. -/
theorem decisionsOnAVotedRecord : Obligations.DecisionsOnAVotedRecord := by
  intro s set i r e hm hseq hr hund he hbefore honce hout same
  obtain ⟨hi, rfl, -⟩ := id hr
  have hi' : (delivered r.set.proposer s).part.table[i] = some r := hi
  have hr' : isRecord (delivered r.set.proposer s) r.set i r := hr
  have hsame {t : State} (hothers : ∀ j, j ≠ i → t.part.table[j] = s.part.table[j]) (hclosed : t.part.closed = s.part.closed)
      (hst : OthersStay (delivered r.set.proposer s) t)
      (hw : WithdrawnTo [isInquireFor r.set] (delivered r.set.proposer s) t) : same t :=
    ⟨hothers, hclosed, hst.chans, hst.time, bystanders_of_delivered hst.beside, hst.clock, hw.proposerStays, hst.memb,
      hw.withdraws honce hout, hw.lineAfter.rest, fun _ => hw.attempt_idle hm.2.1.1⟩
  have harm := armRecord_stays hi'
  have hdrops := drops_freeRecord hi' hund
  have hdropped : same (raise .setDropped (freeRecord i (delivered r.set.proposer s))) :=
    hsame hdrops.others (freeRecord_closed hi') hdrops.stays hdrops.withdrawn
  refine ⟨fun c hc => ⟨armRecord i (delivered r.set.proposer s), ?_, ?_, ?_, harm.2, ?_⟩, fun c hc =>
    ⟨raise .setDropped (freeRecord i (delivered r.set.proposer s)), ?_, hdrops.position, hdrops.pending, hdrops.raises,
      hdropped, hdrops.claims⟩⟩
  · rcases List.mem_pair.mp hc with rfl | rfl
    · rw [exec_commit hm hseq, ifProposer_own rfl, commitEffect_arms hr' hund he hbefore]
    · rw [exec_decision hm hseq, ifAddressed_own, ifProposer_own rfl]
      exact congrArg _ (commitEffect_arms hr' hund he hbefore true)
  · rw [armRecord_part hi', putRecord_same]
  · rw [armRecord_part hi']
    rfl
  · refine hsame (fun j hj => ?_) ?_ harm.1 (armRecord_withdrawn hi')
    · rw [armRecord_part hi', putRecord_other _ _ hj]
      rfl
    · rw [armRecord_part hi']
      rfl
  · rcases List.mem_append.mp hc with hc | hc
    · have hrefused : ∃ outcome, outcome ≠ .committed ∧ c = .decision r.set.proposer s.ctl.number r.set outcome := by
        rcases List.mem_pair.mp hc with rfl | rfl
        · exact ⟨.aborted, by decide, rfl⟩
        · exact ⟨.unknown, by decide, rfl⟩
      obtain ⟨outcome, hne, rfl⟩ := hrefused
      rw [exec_decision hm hseq, ifAddressed_own, ifProposer_own rfl, decisionEffect_refused hne,
        refuseDecisionEffect_undecided hr' hund]
    · obtain ⟨reason, -, rfl⟩ := List.mem_map.mp hc
      rw [exec_abort hm hseq, ifProposer_own rfl, abortEffect_undecided hr' hund]

/-! ### The epoch of an undecided record (R43, R48) -/

/-- What an undecided record's end leaves, beside the table and the recently-closed list. -/
theorem Drops.leaves {i : Fin 4} {r : SetRecord} {s t : State} (h : Drops i r s t) :
    t.chans = s.chans ∧ t.time = s.time ∧ t.memb = s.memb ∧ t.clock = s.clock ∧ proposerStays s t ∧
      raisesOnly [.setDropped] s t ∧ bystanders s t ∧ lineBystanders s t ∧
      abortedOnLine (isInquireFor r.set · = true) s t ∧ attemptStays (isInquireFor r.set · = true) s t ∧
      (s.line.queue.countP (isInquireFor r.set) ≤ 1 →
        (∀ out, outstandingFrame s = some out → isProposalFrame out.frame = true) →
        withdraws (isInquireFor r.set · = true) s t.line.queue) :=
  ⟨h.stays.chans, h.stays.time, h.stays.memb, h.stays.clock, h.withdrawn.proposerStays, h.raises, h.stays.beside,
    h.withdrawn.lineAfter.rest, h.withdrawn.aborted fun f hf => by rwa [namedBy_singleton], h.withdrawn.attemptStays,
    h.withdrawn.withdraws⟩

/-- Settles O52: an undecided record goes at its epoch, as EXPIRED when it is of another station's set. -/
theorem undecidedRecordsExpire : Obligations.UndecidedRecordsExpire := by
  intro s i r e hi hr he
  cases hself : r.self with
  | true =>
    have hdue : selfExpiryDue s i = true ↔ 0 ≤ sdiff s.time.now e :=
      selfExpiryDue_iff.trans ((atEpoch_iff hi he _).trans (and_iff_right ⟨hr, hself⟩))
    refine ⟨fun hbefore => ?_, fun hafter => ⟨expireSelf i s, ?_, ?_⟩⟩
    · exact congrArg _ (if_neg fun h => absurd (hdue.mp h) (Int.not_le.mpr hbefore))
    · exact congrArg _ (if_pos (hdue.mpr hafter))
    · have hdrops := drops_freeRecord hi hr
      exact ⟨hdrops.table, hdrops.pending, hdrops.claims, fun _ => freeRecord_closed hi, nofun, hdrops.leaves⟩
  | false =>
    have hdue : expiryDue s i = true ↔ 0 ≤ sdiff s.time.now e :=
      expiryDue_iff.trans ((atEpoch_iff hi he _).trans (and_iff_right ⟨hr, hself⟩))
    refine ⟨fun hbefore => ?_, fun hafter => ⟨expireRecord i s, ?_, ?_⟩⟩
    · exact congrArg _ (if_neg fun h => absurd (hdue.mp h) (Int.not_le.mpr hbefore))
    · exact congrArg _ (if_pos (hdue.mpr hafter))
    · have hdrops := expireRecord_drops hi hr
      exact ⟨hdrops.table, hdrops.pending, hdrops.claims, nofun, fun _ => expireRecord_closed hi, hdrops.leaves⟩

/-! ### A commit after the epoch (R41, R43) -/

theorem mem_closedWith (e : ClosedEntry) (closed : List ClosedEntry) : e ∈ closedWith e closed := by
  simp [closedWith]

/-- The entries beside a new one are of other sets (R26). -/
theorem map_closedWith {e : ClosedEntry} {f : ClosedEntry → ClosedEntry} (hf : ∀ x, x.set ≠ e.set → f x = x)
    (closed : List ClosedEntry) : (closedWith e closed).map f = (closedWith e closed).dropLast ++ [f e] := by
  have hothers : ∀ l : List ClosedEntry, (∀ x ∈ l, x.set ≠ e.set) → l.map f = l := fun l hl =>
    (List.map_congr_left fun x hx => hf x (hl x hx)).trans (List.map_id l)
  have hmem : ∀ x ∈ closed.filter (fun x => x.set ≠ e.set), x.set ≠ e.set := fun x hx => by simpa using (List.mem_filter.mp hx).2
  simp only [closedWith, List.map_append, List.map_cons, List.map_nil, List.dropLast_concat]
  congr 1
  split
  · exact hothers _ hmem
  · exact hothers _ fun x hx => hmem x (List.mem_of_mem_drop hx)

/-- A frame of another owner taken into the queue leaves the proposal's frame where it is. -/
theorem proposerStays_insert {s t u : State} (h : proposerStays s t) (hprop : u.prop = t.prop) {g : Frame}
    (hqueue : u.line.queue = insertFrame g t.line.queue) (hg : isProposalFrame g = false) : proposerStays s u := by
  obtain ⟨hnone, hactive⟩ := h
  refine ⟨fun hp => hprop.trans (hnone hp), fun p hp => ?_⟩
  obtain ⟨out, ⟨hframe, hsame, hcount⟩, heq⟩ := hactive p hp
  refine ⟨out, ⟨hframe, hsame, fun o ho hq hf => ?_⟩, hprop.trans heq⟩
  have hne : g ≠ o.frame := fun he => by rw [he, hf] at hg; cases hg
  rw [hcount o ho hq hf, hqueue, (insertFrame_perm g _).count_eq, List.count_cons_of_ne hne]

/-- An expired record that is answered at once. -/
theorem answerMissed_expired {i : Fin 4} {r : SetRecord} {s : State} (hi : s.part.table[i] = some r) (hr : undecided r)
    (hroom : s.line.queue.length < 12) :
    answerMissed r.set (expireRecord i s) = ((expireRecord i s).setLine { (expireRecord i s).line with
      queue := insertFrame { src := s.ctl.number, dest := some r.set.proposer, body := .missed r.set }
        (expireRecord i s).line.queue }).setPart { (expireRecord i s).part with
          closed := closedWith { set := r.set, kind := .expired, missedSent := true } s.part.closed } := by
  have hdrops := expireRecord_drops hi hr
  have hclosed := expireRecord_closed hi
  have hctl := hdrops.withdrawn.ctl
  have hlen := hdrops.withdrawn.length.trans_lt hroom
  generalize expireRecord i s = t at hclosed hctl hlen ⊢
  have hentry : ({ set := r.set, kind := .expired, missedSent := false } : ClosedEntry) ∈ t.part.closed := by
    rw [hclosed]
    exact mem_closedWith _ _
  rw [answerMissed_some ⟨_, hentry, rfl, rfl, rfl⟩, if_pos hlen, hctl, hclosed,
    map_closedWith fun x hx => if_neg fun h => hx h.1]
  simp [closedWith]

/-- Settles O32: the EXPIRED entry is answered once, a record at its epoch expiring first. -/
theorem lateCommitIsAnsweredWithMissed : Obligations.LateCommitIsAnsweredWithMissed := by
  intro s set hm hseq u missed c hc
  obtain ⟨quiet, hexec⟩ : ∃ quiet, exec c s = .next (commitEffect quiet set u) := by
    rcases List.mem_pair.mp hc with rfl | rfl
    · exact ⟨false, by rw [exec_commit hm hseq, ifProposer_own rfl]⟩
    · exact ⟨true, by rw [exec_decision hm hseq, ifAddressed_own, ifProposer_own rfl]; rfl⟩
  rw [hexec]
  refine ⟨fun hno hentry => ?_, fun hno hall => ?_, fun i r e hr hund hself he hafter hroom => ?_⟩
  · exact congrArg _ ((commitEffect_absent (s := u) hno quiet).trans (answerMissed_some hentry))
  · exact congrArg _ ((commitEffect_absent (s := u) hno quiet).trans (answerMissed_none hall))
  · obtain ⟨hi, rfl, -⟩ := id hr
    have hi' : u.part.table[i] = some r := hi
    have hr' : isRecord u r.set i r := hr
    have hdrops := expireRecord_drops hi' hund
    have hanswer := (commitEffect_late hr' hund hself he hafter quiet).trans (answerMissed_expired hi' hund hroom)
    rw [hanswer]
    generalize expireRecord i u = x at hdrops ⊢
    refine ⟨_, rfl, hdrops.position, hdrops.pending, rfl, mem_insertFrame.mpr (.inl rfl), fun honce hout =>
      ⟨x.line.queue, hdrops.withdrawn.withdraws honce hout, rfl⟩, hdrops.stays.chans, hdrops.stays.time, hdrops.stays.memb,
      hdrops.stays.clock, bystanders_of_delivered (src := r.set.proposer) hdrops.stays.beside, hdrops.raises,
      hdrops.others, hdrops.claims, hdrops.withdrawn.lineAfter.rest, fun _ => hdrops.withdrawn.attempt_idle hm.2.1.1, ?_⟩
    exact proposerStays_insert (s := u) hdrops.withdrawn.proposerStays rfl rfl rfl

end Sys2Proof.Machine


/-! PROOFS. Lock supervision, and the own SYNC that leaving LOCKED withdraws (R71, R87, R88, R91). -/

namespace Sys2Proof.Machine

/-! ### What the owners say of the queue -/

/-- The proposal's outstanding frame is one of a proposal's (R62). -/
theorem OwnersSound.outstanding {s : State} (h : OwnersSound s) :
    ∀ out, outstandingFrame s = some out → isProposalFrame out.frame = true := by
  obtain ⟨-, -, -, -, -, -, -, -, hact⟩ := h
  intro out ho
  unfold outstandingFrame at ho
  split at ho
  next p hp =>
    rw [hp] at hact
    obtain ⟨hkind, -⟩ := hact
    rw [ho] at hkind
    exact isProposalFrame_iff_phase.mpr ⟨p.phase, hkind.symm⟩
  next => cases ho

theorem namedBy_sync_of_proposal (f : Frame) (h : isProposalFrame f = true) : namedBy [isSync] f = false := by
  rw [namedBy_singleton]
  by_contra hne
  have hkind := isProposalFrame_iff.mp h
  rw [isSync_iff.mp (Bool.of_not_eq_false hne)] at hkind
  simp at hkind

/-! ### The supervision timer (R88) -/

theorem exec_supervisionExpiry_stays {s : State} (h : supervisionNext s = none) : exec .supervisionExpiry s = .next s := by
  change Host.Outcome.next _ = _
  rw [h]

theorem exec_supervisionExpiry_due {s : State} {l : LockState} (h : supervisionNext s = some l) :
    exec .supervisionExpiry s = .next (setLock l s) := by
  change Host.Outcome.next _ = _
  rw [h]

theorem supervisionNext_locked {s : State} {n : Nat} (hn : s.time.supervision = some n) (hl : s.time.lock = .locked)
    (hle : 300000 ≤ n) : supervisionNext s = some .holdover := by
  simp only [supervisionNext, hl, hn]
  exact if_pos hle

/-- Leaving LOCKED for HOLDOVER. -/
theorem setLock_holdover {s : State} (hl : s.time.lock = .locked) :
    setLock .holdover s = raise .lock (withdrawSync (s.setTime { s.time with lock := .holdover })) := by
  have hne : ¬ s.time.lock = .holdover := by simp [hl]
  simp only [setLock, if_neg hne, if_pos hl]
  exact withdrawSync_raise _ _

theorem apart_setTime (x : TimeUnit) : Apart (·.setTime x) where
  clock _ := rfl
  ctl _ := rfl
  prop _ := rfl
  line _ := rfl
  setLine _ _ := rfl
  setProp _ _ := rfl

/-- Leaving LOCKED with an own SYNC outstanding: it is withdrawn (R91). -/
theorem setLock_holdover_sync {s : State} (hl : s.time.lock = .locked) (hown : s.time.ownSync = true) :
    setLock .holdover s =
      raise .lock ((withdrawFrame isSync s).setTime { s.time with lock := .holdover, ownSync := false }) := by
  rw [setLock_holdover hl, withdrawSync, if_pos (by simp [hown])]
  exact congrArg _ ((apart_setTime _).withdrawFrame isSync s)

/-- Settles O44: at its time LOCKED becomes HOLDOVER and the own SYNC alone is withdrawn; before it nothing happens. -/
theorem supervisionEndsLocked : Obligations.SupervisionEndsLocked := by
  intro s n hn
  refine ⟨fun hearly => ?_, fun hl hle hown => ?_, fun hl hle hown howners => ?_⟩
  · refine exec_supervisionExpiry_stays (Option.not_isSome_iff_eq_none.mp fun hsome => ?_)
    obtain ⟨m, hm, hdue⟩ := supervisionNext_isSome.mp hsome
    obtain rfl := Option.some.inj (hn.symm.trans hm)
    rcases hearly with ⟨hl, hlt⟩ | ⟨hl, hlt⟩ | ⟨hl, hlt⟩ | hl <;> simp only [hl] at hdue <;> simp at hdue <;> omega
  · rw [exec_supervisionExpiry_due (supervisionNext_locked hn hl hle), setLock_holdover hl, withdrawSync,
      if_neg (by simp [hown])]
    rfl
  · have hout := howners.outstanding
    obtain ⟨-, -, -, ⟨-, honce⟩, -⟩ := howners
    have hexec := exec_supervisionExpiry_due (supervisionNext_locked hn hl hle)
    rw [setLock_holdover_sync hl hown] at hexec
    have hw : WithdrawnTo [isSync] s (withdrawFrame isSync s) :=
      ⟨rfl, rfl, withdrawFrame_clock _ _, withdrawFrame_ctl _ _⟩
    obtain ⟨l, p, hframe⟩ : ∃ l p, withdrawFrame isSync s = (s.setLine l).setProp p := ⟨_, _, withdrawFrame_frame _ _⟩
    have hqueue : withdraws (isSync · = true) s (withdrawFrame isSync s).line.queue :=
      withdraws_withdrawEach namedBy_sync_of_proposal (fun w hw => by rwa [List.mem_singleton.mp hw]) hout
        (fun f => by rw [namedBy_singleton]) hw.outcome
    have hprop := proposerStays_withdrawEach namedBy_sync_of_proposal hw.outcome
    have habort : abortedOnLine (isSync · = true) s (withdrawFrame isSync s) :=
      hw.aborted fun f hf => by rwa [namedBy_singleton]
    have hstays : attemptStays (isSync · = true) s (withdrawFrame isSync s) :=
      attemptStays_mono hw.lineAfter.stays fun f hf => by rwa [namedBy_singleton] at hf
    have hline := hw.lineAfter.rest
    generalize withdrawFrame isSync s = t at hexec hframe hqueue hprop habort hstays hline
    subst hframe
    exact ⟨_, hexec, rfl, hqueue, isPending_raise_self (by decide) _, raisesOnly_raise rfl rfl, rfl, rfl, rfl, rfl, hprop,
      ⟨rfl, rfl, rfl, rfl, rfl⟩, hline, habort, hstays⟩

end Sys2Proof.Machine


/-! PROOFS. The end of a proposal's phase: its frame recalled, its ABORT offered or its entry logged, its self record freed
(R48, R62, R66 to R70, R72, R73). -/

namespace Sys2Proof.Machine

theorem OthersStay.trans {s t u : State} (h : OthersStay s t) (h' : OthersStay t u) : OthersStay s u := by
  obtain ⟨⟨hctl, hcapt, hport, hpending, henable⟩, hchans, htime, hmemb, hclock⟩ := h
  obtain ⟨⟨hctl', hcapt', hport', hpending', henable'⟩, hchans', htime', hmemb', hclock'⟩ := h'
  exact ⟨⟨hctl'.trans hctl, hcapt'.trans hcapt, hport'.trans hport, hpending'.trans hpending, henable'.trans henable⟩,
    hchans'.trans hchans, htime'.trans htime, hmemb'.trans hmemb, hclock'.trans hclock⟩

theorem OthersStay.refl (s : State) : OthersStay s s := ⟨⟨rfl, rfl, rfl, rfl, rfl⟩, rfl, rfl, rfl, rfl⟩

/-! ### Withdrawals that find no frame -/

theorem withdrawEach_none {ws : List (Frame → Bool)} {s : State} (h : ∀ f ∈ s.line.queue, namedBy ws f = false) :
    withdrawEach ws s = s := by
  induction ws with
  | nil => rfl
  | cons w ws ih =>
    have hw : s.line.queue.any w = false := List.any_eq_false.mpr fun f hf => by
      rw [(namedBy_cons_eq_false.mp (h f hf)).1]
      decide
    change withdrawEach ws (withdrawFrame w s) = s
    rw [withdrawFrame_none hw]
    exact ih fun f hf => (namedBy_cons_eq_false.mp (h f hf)).2

/-! ### A proposal's frame through withdrawals of other owners' frames (R62) -/

/-- A frame of the proposal that is outstanding, and queued exactly when it says so, stays so; and it stays queued. -/
theorem WithdrawnTo.outstanding {ws : List (Frame → Bool)} {s t : State} (h : WithdrawnTo ws s t)
    (hws : ∀ f, isProposalFrame f = true → namedBy ws f = false) {q : Proposal} {f : Frame} {b : Bool}
    (hq : s.prop.activity = .active { q with outstanding := some { frame := f, queued := b } })
    (hf : isProposalFrame f = true) :
    ∃ b', t.prop = { s.prop with activity := .active { q with outstanding := some { frame := f, queued := b' } } } ∧
      (b = true → b' = true) ∧
      ((b = true ↔ f ∈ s.line.queue) → (∀ g ∈ s.line.queue, isProposalFrame g = true → g = f) →
        (b' = true ↔ f ∈ t.line.queue) ∧ ∀ g ∈ t.line.queue, isProposalFrame g = true → g = f) := by
  rcases h.outcome with h | ⟨p, g, h⟩
  · have hmem : f ∈ t.line.queue ↔ f ∈ s.line.queue :=
      mem_of_filter (h.keep _ fun x hx => by rw [of_decide_eq_true hx]; exact hws f hf)
    refine ⟨b, ?_, id, fun hb honly => ⟨by rw [hmem, hb], fun g hg => honly g (h.sublist.subset hg)⟩⟩
    rw [h.prop]
    exact congrArg (fun a => { s.prop with activity := a }) hq
  · obtain rfl := Activity.active.inj (h.active.symm.trans hq)
    obtain rfl : f = g := by simpa using congrArg (Option.map (·.frame)) h.waits
    refine ⟨true, h.prop, fun _ => rfl, fun _ honly => ⟨iff_of_true rfl ?_, fun x hx hprop => ?_⟩⟩
    · rw [← List.count_pos_iff, h.count (hws f hf)]
      exact Nat.succ_pos _
    · exact (h.mem x hx).elim id fun hx => honly x hx.1 hprop

/-- With no open proposal no frame of one takes a place. -/
theorem WithdrawnTo.closed {ws : List (Frame → Bool)} {s t : State} (h : WithdrawnTo ws s t)
    (hclosed : ∀ p, s.prop.activity ≠ .active p) : Unplaced ws s t := by
  rcases h.outcome with h | ⟨p, f, h⟩
  · exact h
  · exact absurd h.active (hclosed p)

/-- Every frame of another kind than those withdrawn, the proposal's apart, stands where it was. -/
theorem WithdrawnTo.keeps {ws : List (Frame → Bool)} {s t : State} (h : WithdrawnTo ws s t)
    (hout : ∀ out, outstandingFrame s = some out → isProposalFrame out.frame = true) {keep : Frame → Bool}
    (hkeep : ∀ f, keep f = true → isProposalFrame f = false ∧ namedBy ws f = false) :
    t.line.queue.filter keep = s.line.queue.filter keep := by
  rcases h.outcome with h | ⟨p, f, h⟩
  · exact h.keep keep fun f hf => (hkeep f hf).2
  · refine h.keep keep (fun f hf => (hkeep f hf).2) ?_
    by_contra hne
    have hf := hout { frame := f, queued := false } (by rw [outstandingFrame_active h.active, h.waits])
    rw [(hkeep f (Bool.of_not_eq_false hne)).1] at hf
    cases hf

/-! ### The self record freed (R48) -/

theorem findSelf_noSelfRecord {s : State} {set : SetId} (h : noSelfRecord s set) : findSelf set s = none :=
  List.find?_eq_none.mpr fun i _ => by rw [holdsRecord_isOwn, h i]; decide

theorem isSelfRecord_of_findSelf {s : State} {set : SetId} {i : Fin 4} (h : findSelf set s = some i) :
    ∃ r, s.part.table[i] = some r ∧ r.set = set ∧ ∀ (j : Fin 4) (q : SetRecord), isSelfRecord s set j q → j = i ∧ q = r := by
  obtain ⟨r, hi, hset, -⟩ := findSelf_some h
  refine ⟨r, hi, hset, fun j q hq => ?_⟩
  obtain rfl := Option.some.inj ((findSelf_isSelfRecord hq).symm.trans h)
  exact ⟨rfl, Option.some.inj (hq.1.symm.trans hi)⟩

/-- What freeing the self record of a set leaves: at most the set's INQUIRE leaves the queue. -/
structure SelfFreed (set : SetId) (s t : State) : Prop where
  freed : freesSelf set s t
  stays : OthersStay s t
  raises : raisesOnly [.setDropped] s t
  withdrawn : ∃ ws, (∀ f, namedBy ws f = true → isInquireFor set f = true) ∧ WithdrawnTo ws s t

/-- Kinds that name only a set's INQUIRE name no frame of a proposal. -/
theorem namedBy_proposal_of_inquire {ws : List (Frame → Bool)} {set : SetId}
    (hws : ∀ f, namedBy ws f = true → isInquireFor set f = true) (f : Frame) (hf : isProposalFrame f = true) :
    namedBy ws f = false := by
  have hno := namedBy_inquire_of_proposal set f hf
  rw [namedBy_singleton] at hno
  by_contra hne
  rw [hws f (Bool.of_not_eq_false hne)] at hno
  cases hno

theorem raiseIf_stays {s t : State} (h : OthersStay s t) (b : Bool) (n : Notice) : OthersStay s (raiseIf b n t) := by
  cases b with
  | true => exact h.raise n
  | false => exact h

theorem WithdrawnTo.raiseIf {ws : List (Frame → Bool)} {s t : State} (h : WithdrawnTo ws s t) (b : Bool) (n : Notice) :
    WithdrawnTo ws s (raiseIf b n t) := by
  cases b with
  | true => exact ⟨h.line, h.prop, h.clock, h.ctl⟩
  | false => exact h

theorem selfFreed_freeSelf (set : SetId) (s : State) : SelfFreed set s (freeSelf set s) := by
  cases hfind : findSelf set s with
  | none =>
    have hsame : freeSelf set s = s := by simp only [freeSelf, hfind]
    rw [hsame]
    refine ⟨⟨rfl, fun _ => ⟨rfl, rfl⟩, fun i r hr => ?_⟩, .refl s, fun _ _ => rfl, [], nofun, rfl, rfl, rfl, rfl⟩
    rw [findSelf_isSelfRecord hr] at hfind
    cases hfind
  | some i =>
    obtain ⟨r, hi, rfl, huniq⟩ := isSelfRecord_of_findSelf hfind
    have heq : freeSelf r.set s = raiseIf (r.state == .voted) .setDropped (freeRecord i s) := by
      simp only [freeSelf, hfind, holdsRecord_at hi]
    have hpart : (freeSelf r.set s).part = (freedAt i r s).part := by
      rw [heq, raiseIf_frame]
      exact freeRecord_part hi
    refine ⟨⟨?_, fun hno => ?_, fun j q hq => ?_⟩, ?_, ?_, [isInquireFor r.set], fun f hf => ?_, ?_⟩
    · rw [hpart, freedAt_closed]
    · rw [findSelf_noSelfRecord hno] at hfind
      cases hfind
    · obtain ⟨rfl, rfl⟩ := huniq j q hq
      rw [hpart]
      refine ⟨freedAt_table_same _ _ s, fun k hk => freedAt_table_other _ s hk, fun hvoted => ?_, freedAt_claim _ _ s⟩
      rw [heq, hvoted]
      exact isPending_raise_self (by decide) _
    · rw [heq]
      exact raiseIf_stays (freeRecord_stays i s).1 _ _
    · rw [heq]
      exact raisesOnly_trans (raisesOnly_congr _ (freeRecord_stays i s).2 (freeRecord_stays i s).1.beside.2.1)
        (raisesOnly_raiseIf _ _ _)
    · rwa [namedBy_singleton] at hf
    · rw [heq]
      exact (freeRecord_withdrawn hi).raiseIf _ _

/-! ### The proposal's frame recalled (R62, R116) -/

theorem lineRecalled_queue (s : State) : (lineRecalled s).queue = s.line.queue.eraseP isProposalFrame := by
  unfold lineRecalled
  split
  next => rfl
  next hno => exact (List.eraseP_of_forall_not (by simpa using hno)).symm

theorem lineRecalled_none {s : State} (h : s.line.queue.any isProposalFrame = false) : lineRecalled s = s.line :=
  if_neg (by simp [h])

/-- The line without the proposal's frame: an attempt with it is aborted, any other goes on. -/
theorem lineAfter_recalled (s : State) : LineAfter [isProposalFrame] s (s.setLine (lineRecalled s)) := by
  cases hany : s.line.queue.any isProposalFrame with
  | false =>
    rw [lineRecalled_none hany]
    refine ⟨⟨rfl, rfl, rfl, rfl, rfl, rfl, rfl, rfl⟩, fun _ => ⟨rfl, rfl⟩, fun a _ _ hmem hn => ?_⟩
    exact absurd (by simpa [namedBy] using hn) (List.any_eq_false.mp hany _ hmem)
  | true =>
    rw [lineRecalled, if_pos hany]
    refine ⟨?_, fun h => ?_, fun a ha hr _ hn => ?_⟩
    · obtain ⟨attempt, drive, hline, -⟩ := lineWithout_eq isProposalFrame s
      rw [hline]
      exact ⟨rfl, rfl, rfl, rfl, rfl, rfl, rfl, rfl⟩
    · rw [lineWithout_stays (attemptMatches_false fun a ha => by simpa [namedBy] using h a ha)]
      exact ⟨rfl, rfl⟩
    · rw [lineWithout_aborts ha hr (by simpa [namedBy] using hn)]
      exact ⟨rfl, rfl⟩

/-! ### What the end of a phase leaves -/

/-- What the end of a proposal's phase leaves beside the proposal itself. -/
structure PhaseEnds (set : SetId) (s t : State) : Prop where
  freed : freesSelf set s t
  stays : OthersStay s t
  rest : lineBystanders s t
  attempt : ∀ gone : Frame → Prop, (∀ f, isInquireFor set f = true → gone f) →
    (∀ f, isProposalFrame f = true → gone f) ∨ s.line.queue.any isProposalFrame = false → attemptStays gone s t
  keeps : keepsQueued (fun f => isProposalFrame f = true ∨ isInquireFor set f = true) s t.line.queue
  aborted : abortedOnLine (isProposalFrame · = true) s t

/-- The frame recalled, another perhaps offered, the self record freed. -/
theorem phaseEnds {set : SetId} {s x t : State} {q : List Frame} (hself : SelfFreed set x t) (hpart : x.part = s.part)
    (hst : OthersStay s x) (hline : x.line = { lineRecalled s with queue := q })
    (hout : ∀ out, outstandingFrame x = some out → isProposalFrame out.frame = true)
    (hq : ∀ keep : Frame → Bool, (∀ f, keep f = true → isProposalFrame f = false) →
      q.filter keep = s.line.queue.filter keep) : PhaseEnds set s t := by
  obtain ⟨hfreed, hstays, -, ws, hws, hw⟩ := hself
  obtain ⟨hrest, hgoes, haborted⟩ := lineAfter_recalled s
  have hrest' : lineBystanders s x := by
    unfold lineBystanders
    rw [hline]
    exact hrest
  refine ⟨?_, hst.trans hstays, lineBystanders_trans hrest' hw.lineAfter.rest, fun gone hinq hprop => fun h => ?_,
    fun keep hkeep => ?_, fun a ha hr hmem hn => ?_⟩
  · unfold freesSelf noSelfRecord isSelfRecord at hfreed ⊢
    rw [hpart] at hfreed
    exact hfreed
  · have hfirst : x.line.attempt = s.line.attempt ∧ x.line.driveUntil = s.line.driveUntil := by
      rw [hline]
      rcases hprop with hprop | hnone
      · exact hgoes fun a ha => (h a ha).imp_right fun hg hn => hg (hprop _ ((namedBy_singleton _ _).symm.trans hn))
      · rw [lineRecalled_none hnone]
        exact ⟨rfl, rfl⟩
    obtain ⟨hatt, hdrive⟩ := hw.lineAfter.stays fun a ha =>
      (h a (hfirst.1 ▸ ha)).imp_right fun hg hn => hg (hinq _ (hws _ hn))
    exact ⟨hatt.trans hfirst.1, hdrive.trans hfirst.2⟩
  · rw [hw.keeps hout, hline]
    · exact hq keep fun f hf => Bool.eq_false_iff.mpr fun hp => hkeep f hf (.inl hp)
    · refine fun f hf => ⟨Bool.eq_false_iff.mpr fun hp => hkeep f hf (.inl hp), ?_⟩
      exact Bool.eq_false_iff.mpr fun hn => hkeep f hf (.inr (hws f hn))
  · obtain ⟨hatt, hdrive⟩ := haborted a ha hr hmem (by rwa [namedBy_singleton])
    have hattx : x.line.attempt = none := by rw [hline]; exact hatt
    have hdrivex : x.line.driveUntil = some (driveEnd s a) := by rw [hline]; exact hdrive
    obtain ⟨hatt', hdrive'⟩ := hw.attempt_idle hattx
    have hdrive' := hdrive'.trans hdrivex
    refine ⟨hatt'.trans hattx, hdrive', fun hreset => ?_⟩
    refine (ltxDominant_idle ?_ (hatt'.trans hattx)).mpr ⟨_, hdrive', ?_⟩
    · rw [hstays.beside.1, hst.beside.1]
      exact hreset
    · rw [hstays.clock, hst.clock]
      exact lt_driveEnd s a

/-! ### The proposal goes to ABORTING (R68) -/

/-- The ABORT of a set with a reason. -/
def abortFrame (s : State) (set : SetId) (reason : AbortReason) : Frame :=
  { src := s.ctl.number, dest := none, body := .abort set reason }

theorem isProposalFrame_abort (s : State) (set : SetId) (reason : AbortReason) :
    isProposalFrame (abortFrame s set reason) = true := rfl

/-- What an abort leaves: the ABORT outstanding, queued or waiting for room, and no other frame of a proposal in the queue. -/
structure Aborts (p : Proposal) (reason : AbortReason) (s t : State) : Prop where
  ends : PhaseEnds p.set s t
  raises : raisesOnly [.setDropped] s t
  queued : ∃ b, t.prop = { s.prop with activity := .active { p with
      phase := .aborting
      abortReason := some reason
      outstanding := some { frame := abortFrame s p.set reason, queued := b } } } ∧
    (s.line.queue.countP isProposalFrame ≤ 1 →
      (b = true ↔ abortFrame s p.set reason ∈ t.line.queue) ∧
      (∀ f ∈ t.line.queue, isProposalFrame f = true → f = abortFrame s p.set reason) ∧
      ((s.line.queue.filter (!isProposalFrame ·)).length < 12 → b = true))
  exact : s.line.queue.countP isProposalFrame ≤ 1 → (∀ f ∈ s.line.queue, isInquireFor p.set f = false) →
    t.line.queue = queueOffered (abortFrame s p.set reason) (s.line.queue.filter (!isProposalFrame ·))

theorem queueHasRoom_recalled (s : State) :
    queueHasRoom (s.setLine (lineRecalled s)) = decide ((s.line.queue.eraseP isProposalFrame).length < 12) := by
  rw [queueHasRoom, State.setLine_line, lineRecalled_queue]
  rfl

/-- The line once the proposal's frame is recalled and another offered. -/
theorem offer_recalled (s : State) (f : Frame) :
    offer f (s.setLine (lineRecalled s)) =
      s.setLine { lineRecalled s with queue := queueOffered f (s.line.queue.eraseP isProposalFrame) } := by
  rw [offer_eq, State.setLine_line, queueHasRoom_recalled, lineRecalled_queue, queueOffered]
  simp only [decide_eq_true_eq]
  rfl

theorem mem_queueOffered {f g : Frame} {q : List Frame} (h : g ∈ queueOffered f q) : g = f ∨ g ∈ q := by
  unfold queueOffered at h
  split at h
  · exact mem_insertFrame.mp h
  · exact .inr h

theorem filter_queueOffered {keep : Frame → Bool} {f : Frame} (hf : keep f = false) (q : List Frame) :
    (queueOffered f q).filter keep = q.filter keep := by
  unfold queueOffered
  split
  · exact filter_insertFrame_neg hf q
  · rfl

/-- The proposal in ABORTING with its ABORT offered, the frame that was outstanding being recalled (R62, R68). -/
def abortOffered (p : Proposal) (reason : AbortReason) (s : State) : State :=
  let rest := s.line.queue.eraseP isProposalFrame
  (s.setLine { lineRecalled s with queue := queueOffered (abortFrame s p.set reason) rest }).setProp
    { s.prop with activity := .active { p with
        phase := .aborting
        abortReason := some reason
        outstanding := some { frame := abortFrame s p.set reason, queued := decide (rest.length < 12) } } }

theorem abortProposal_offered {s : State} {p : Proposal} (hp : s.prop.activity = .active p) (reason : AbortReason) :
    abortProposal reason s = freeSelf p.set (abortOffered p reason s) := by
  rw [abortProposal_eq hp, show ownFrame s none (.abort p.set reason) = abortFrame s p.set reason from rfl, offer_recalled,
    queueHasRoom_recalled]
  rfl

/-- Once recalled, a frame of the proposal is in the queue exactly when it has been offered to a queue with room. -/
theorem mem_abortOffered {s : State} (honce : s.line.queue.countP isProposalFrame ≤ 1) {f : Frame}
    (hf : isProposalFrame f = true) :
    ((s.line.queue.eraseP isProposalFrame).length < 12 ↔ f ∈ queueOffered f (s.line.queue.eraseP isProposalFrame)) ∧
      ∀ g ∈ queueOffered f (s.line.queue.eraseP isProposalFrame), isProposalFrame g = true → g = f := by
  have hnone : ∀ g ∈ s.line.queue.eraseP isProposalFrame, isProposalFrame g = false := fun g hg => by
    rw [eraseP_eq_filter honce] at hg
    simpa using (List.mem_filter.mp hg).2
  refine ⟨?_, fun g hg hp => (mem_queueOffered hg).elim id fun hg => ?_⟩
  · unfold queueOffered
    split
    next hroom => exact iff_of_true hroom (mem_insertFrame.mpr (.inl rfl))
    next hfull =>
      refine iff_of_false hfull fun hmem => ?_
      rw [hnone f hmem] at hf
      cases hf
  · rw [hnone g hg] at hp
    cases hp

theorem aborts_abortProposal {s : State} {p : Proposal} (hp : s.prop.activity = .active p) (reason : AbortReason) :
    Aborts p reason s (abortProposal reason s) := by
  have hself := selfFreed_freeSelf p.set (abortOffered p reason s)
  rw [← abortProposal_offered hp] at hself
  obtain ⟨-, -, hraises, ws, hws, hw⟩ := id hself
  refine ⟨phaseEnds hself rfl ⟨⟨rfl, rfl, rfl, rfl, rfl⟩, rfl, rfl, rfl, rfl⟩ rfl (fun out ho => ?_) (fun keep hkeep => ?_),
    hraises, ?_, fun honce hno => ?_⟩
  · obtain rfl := Option.some.inj ho
    rfl
  · rw [filter_queueOffered, filter_eraseP hkeep]
    exact Bool.eq_false_iff.mpr fun h => Bool.noConfusion (hkeep _ h)
  · obtain ⟨b, hprop, hstays, hexact⟩ := hw.outstanding (namedBy_proposal_of_inquire hws)
      (q := { p with phase := .aborting, abortReason := some reason }) rfl (isProposalFrame_abort s p.set reason)
    refine ⟨b, hprop, fun honce => ?_⟩
    obtain ⟨hmem, honly⟩ := mem_abortOffered honce (isProposalFrame_abort s p.set reason)
    obtain ⟨hmem', honly'⟩ := hexact (decide_eq_true_iff.trans hmem) honly
    refine ⟨hmem', honly', fun hroom => hstays (decide_eq_true ?_)⟩
    rwa [eraseP_eq_filter honce]
  · have hx : ∀ f ∈ (abortOffered p reason s).line.queue, namedBy ws f = false := fun f hf =>
      Bool.eq_false_iff.mpr fun hn => by
        rcases mem_queueOffered hf with rfl | hf
        · rw [namedBy_proposal_of_inquire hws _ (isProposalFrame_abort s p.set reason)] at hn
          cases hn
        · have hinq := hws f hn
          rw [hno f (List.mem_of_mem_eraseP hf)] at hinq
          cases hinq
    rw [hw.line, withdrawEach_none hx]
    change queueOffered _ (s.line.queue.eraseP isProposalFrame) = _
    rw [eraseP_eq_filter honce]

/-! ### The proposal closes at once (R66, R67, R69) -/

/-- What a close without an ABORT leaves: the entry in the log, OUTCOME, and no frame of a proposal in the queue. -/
structure Closes (p : Proposal) (reason : AbortReason) (s t : State) : Prop where
  ends : PhaseEnds p.set s t
  raises : raisesOnly [.setDropped, .outcome] s t
  outcome : isPending .outcome t = true
  prop : t.prop = { s.prop with activity := .idle, log := loggedWith (entryOf p (some reason)) s.prop.log }
  none : s.line.queue.countP isProposalFrame ≤ 1 → t.line.queue.any isProposalFrame = false

theorem closes_closeAborted {s : State} {p : Proposal} (hp : s.prop.activity = .active p) (reason : AbortReason) :
    Closes p reason s (closeAborted reason s) := by
  have heq := closeAborted_eq hp reason
  have hself := selfFreed_freeSelf p.set (closeWith (closingEntry p (some reason)) (s.setLine (lineRecalled s)))
  rw [← heq] at hself
  obtain ⟨-, -, hraises, ws, hws, hw⟩ := id hself
  have hclosed := hw.closed fun q hq => by cases hq
  refine ⟨phaseEnds (q := (lineRecalled s).queue) hself rfl ⟨⟨rfl, rfl, rfl, rfl, rfl⟩, rfl, rfl, rfl, rfl⟩ rfl nofun
    (fun keep hkeep => ?_), ?_, ?_, ?_, fun honce => ?_⟩
  · rw [lineRecalled_queue, filter_eraseP hkeep]
  · refine raisesOnly_trans (t := closeWith (closingEntry p (some reason)) (s.setLine (lineRecalled s))) ?_
      (raisesOnly_mono hraises (by simp))
    exact raisesOnly_mono (raisesOnly_raise rfl rfl) (by simp)
  · rw [hraises .outcome (by decide)]
    exact isPending_raise_self (by decide) _
  · rw [hclosed.prop]
    exact congrArg (fun log => { s.prop with activity := .idle, log := log }) (addLog_eq _ _)
  · refine List.any_eq_false.mpr fun f hf => ?_
    have hmem : f ∈ (lineRecalled s).queue := hclosed.sublist.subset hf
    rw [lineRecalled_queue, eraseP_eq_filter honce] at hmem
    simpa using (List.mem_filter.mp hmem).2

/-! ### The epoch of the proposal (R67 to R69) -/

theorem exec_proposerEpoch_stays {s : State} (h : ¬ meetsEpoch s) : exec .proposerEpoch s = .next s :=
  congrArg Host.Outcome.next (if_neg (mt proposerEpochDue_iff.mp h))

/-- The proposal at its epoch, by its phase. -/
theorem meetProposerEpoch_staging {s : State} {p : Proposal} (hp : s.prop.activity = .active p)
    (hle : 0 ≤ sdiff s.time.now p.epoch) (hphase : p.phase = .staging ∨ p.phase = .calling) :
    meetProposerEpoch s = abortProposal .late s := by
  have hdue : proposerEpochDue s = true := proposerEpochDue_iff.mpr ⟨p, hp, hle, hphase.elim .inl (.inr ∘ .inl)⟩
  rcases hphase with h | h <;> simp only [meetProposerEpoch, if_pos hdue, hp, h]

theorem meetProposerEpoch_committing {s : State} {p : Proposal} (hp : s.prop.activity = .active p)
    (hle : 0 ≤ sdiff s.time.now p.epoch) (hphase : p.phase = .committing) : meetProposerEpoch s = closeAborted .late s := by
  have hdue : proposerEpochDue s = true := proposerEpochDue_iff.mpr ⟨p, hp, hle, .inr (.inr (.inl hphase))⟩
  simp only [meetProposerEpoch, if_pos hdue, hp, hphase]

theorem meetProposerEpoch_aborting {s : State} {p : Proposal} (hp : s.prop.activity = .active p)
    (hle : 0 ≤ sdiff s.time.now p.epoch) (hphase : p.phase = .aborting) (hcall : p.callSent = true) {reason : AbortReason}
    (hreason : p.abortReason = some reason) : meetProposerEpoch s = closeAborted reason s := by
  have hdue : proposerEpochDue s = true := proposerEpochDue_iff.mpr ⟨p, hp, hle, .inr (.inr (.inr ⟨hphase, hcall⟩))⟩
  simp only [meetProposerEpoch, if_pos hdue, hp, hphase, storedReason, hreason, Option.getD_some]

theorem Aborts.abortQueued {p : Proposal} {reason : AbortReason} {s t : State} (h : Aborts p reason s t)
    (honce : s.line.queue.countP isProposalFrame ≤ 1) : abortQueued p (abortFrame s p.set reason) s t := by
  obtain ⟨b, hprop, hqueued⟩ := h.queued
  obtain ⟨hmem, honly, hroom⟩ := hqueued honce
  refine ⟨b, ?_, hmem, honly, fun hlen => hmem.mp (hroom hlen), h.exact honce⟩
  unfold outstandingFrame
  rw [hprop]

/-- Settles O43: the epoch aborts, closes or leaves the proposal by its phase. -/
theorem epochOfTheOpenProposal : Obligations.EpochOfTheOpenProposal := by
  intro s
  refine ⟨fun hnone => exec_proposerEpoch_stays fun ⟨p, hp, _⟩ => hnone p hp, fun p hp honce =>
    ⟨fun hno => exec_proposerEpoch_stays ?_, ?_⟩⟩
  · rintro ⟨q, hq, hreached, hphase⟩
    obtain rfl := Activity.active.inj (hp.symm.trans hq)
    rcases hno with hlt | hvoting | ⟨haborting, hcall⟩
    · omega
    · simp [hvoting] at hphase
    · simp [haborting, hcall] at hphase
  · intro hle freed closed
    have hfreed {t : State} (h : PhaseEnds p.set s t) (hseq : t.prop.sequence = s.prop.sequence) : freed t :=
      ⟨h.freed, h.stays.chans, h.stays.time, h.stays.memb, h.stays.clock, hseq, h.stays.beside, h.rest,
        h.attempt _ (fun _ => .inr) (.inl fun _ => .inl), h.keeps⟩
    have hclosed {reason : AbortReason} (h : meetProposerEpoch s = closeAborted reason s) : closed reason := by
      have hc := closes_closeAborted hp reason
      exact ⟨_, congrArg Host.Outcome.next h, hc.outcome, hc.prop, hc.none honce, hc.raises,
        hfreed hc.ends (by rw [hc.prop]), hc.ends.aborted⟩
    refine ⟨fun hphase => ?_, fun hphase => hclosed (meetProposerEpoch_committing hp hle hphase), fun reason hphase hcall hr =>
      hclosed (meetProposerEpoch_aborting hp hle hphase hcall hr)⟩
    have ha := aborts_abortProposal hp .late
    obtain ⟨b, hprop, -⟩ := ha.queued
    exact ⟨_, _, congrArg Host.Outcome.next (meetProposerEpoch_staging hp hle hphase), by rw [hprop], ⟨_, rfl⟩,
      ha.abortQueued honce, by rw [hprop], ha.raises, hfreed ha.ends (by rw [hprop]), ha.ends.aborted⟩

/-! ### WITHDRAW (R70) -/

theorem exec_withdraw {s : State} (hc : carriesCommand s = true) :
    exec (.withdraw []) s = .next (withResponse (ownWithdraw s).state 10 (ownWithdraw s).status (ownWithdraw s).results) :=
  congrArg _ (takeCommand_owner hc rfl)

/-- Settles O15: WITHDRAW by phase. -/
theorem withdrawByPhase : Obligations.WithdrawByPhase := by
  intro s hc
  refine ⟨fun hidle => ?_, fun d hd => ?_, fun p hp => ⟨fun hphase => ?_, fun hphase honce => ?_⟩⟩
  · rw [exec_withdraw hc]
    simp only [ownWithdraw, hidle]
    rfl
  · rw [exec_withdraw hc]
    simp only [ownWithdraw, hd]
    rfl
  · rw [exec_withdraw hc]
    rcases hphase with h | h | h <;> simp only [ownWithdraw, hp, h] <;> rfl
  · have hown : ownWithdraw s = answer (abortProposal .withdrawn s) .ok := by
      rcases hphase with h | h <;> simp only [ownWithdraw, hp, h]
    have hexec := exec_withdraw hc
    rw [hown] at hexec
    have ha := aborts_abortProposal hp .withdrawn
    have hqueued := ha.abortQueued honce
    obtain ⟨b, hprop, -⟩ := ha.queued
    obtain ⟨⟨hfreed, ⟨⟨hctl, hcapt, hport, hpending, henable⟩, hchans, htime, hmemb, hclock⟩, hrest, hatt, hkeeps,
      haborted⟩, hraises⟩ := And.intro ha.ends ha.raises
    generalize abortProposal .withdrawn s = t at *
    have hlog : t.prop.log = s.prop.log := by rw [hprop]
    have hseq : t.prop.sequence = s.prop.sequence := by rw [hprop]
    have hgone := hatt (fun f => isProposalFrame f = true ∨ isInquireFor p.set f = true) (fun _ => .inr)
      (.inl fun _ => .inl)
    refine ⟨_, _, hexec, rfl, congrArg Proposer.activity hprop, ⟨_, rfl⟩, hqueued, hgone, hkeeps, hlog, hseq,
      hchans, htime, hmemb, hcapt, hctl, hclock, hpending, rfl, henable, hraises, hrest, hfreed, haborted⟩

end Sys2Proof.Machine


/-! PROOFS. The end of the reply window (R66). -/

namespace Sys2Proof.Machine

/-! ### The vote (R66) -/

/-- The results at the window end. -/
def settled (targets : List TargetEntry) : List TargetEntry :=
  targets.map fun t => if t.result = .pending then { t with result := .noReply } else t

theorem result_settled {t : TargetEntry} {targets : List TargetEntry} (h : t ∈ settled targets) : t.result ≠ .pending := by
  obtain ⟨x, -, rfl⟩ := List.mem_map.mp h
  split
  next => simp
  next hne => exact hne

theorem isRefused_iff {r : TargetResult} (h : r ≠ .pending) :
    isRefused r = true ↔ r ≠ .ready ∧ r ≠ .noReply ∧ r ≠ .missed := by
  cases r <;> simp [isRefused] at h ⊢

theorem leadAtLeast_iff {s : State} {epoch : NetTime} {n : Nat} :
    leadAtLeast s epoch n = true ↔ ((n * bitTime s.ctl.rate / 2 : Nat) : Int) ≤ sdiff epoch s.time.now := decide_eq_true_iff

theorem commits_iff {s : State} {p : Proposal} :
    commits s p (settled p.targets) = true ↔ p.lockLost = false ∧ (∀ t ∈ settled p.targets, t.result = .ready) ∧
      ((256 * bitTime s.ctl.rate / 2 : Nat) : Int) ≤ sdiff p.epoch s.time.now := by
  rw [commits, Bool.and_eq_true, Bool.and_eq_true, leadAtLeast_iff, List.all_eq_true, Bool.not_eq_true', and_assoc]
  simp only [beq_iff_eq]
  rfl

/-- The first reason that applies. -/
theorem windowAbortReason_eq (p : Proposal) :
    windowAbortReason p (settled p.targets) =
      if p.lockLost then AbortReason.lockLost
      else if ∃ t ∈ settled p.targets, t.result ≠ .ready ∧ t.result ≠ .noReply ∧ t.result ≠ .missed then .refused
      else if ∃ t ∈ settled p.targets, t.result = .noReply then .noReply
      else .late := by
  have hrefused : (settled p.targets).any (fun t => isRefused t.result) = true ↔
      ∃ t ∈ settled p.targets, t.result ≠ .ready ∧ t.result ≠ .noReply ∧ t.result ≠ .missed := by
    rw [List.any_eq_true]
    exact exists_congr fun t => and_congr_right fun ht => isRefused_iff (result_settled ht)
  have hsilent : (settled p.targets).any (fun t => t.result == .noReply) = true ↔
      ∃ t ∈ settled p.targets, t.result = .noReply := by
    simp only [List.any_eq_true, beq_iff_eq]
  simp only [windowAbortReason, hrefused, hsilent]

theorem exec_windowEnd (s : State) : exec .windowEnd s = .next (if windowDue s then decideVote s else s) := rfl

/-- The proposal with its results settled. -/
def withSettled (p : Proposal) (s : State) : State :=
  s.setProp { s.prop with activity := .active { p with targets := settled p.targets } }

section decision
variable {s : State} {p : Proposal} (hp : s.prop.activity = .active p)
include hp

theorem decideVote_commits (h : commits s p (settled p.targets) = true) (hroom : Bool)
    (hr : queueHasRoom s = hroom) :
    decideVote s = (offer { src := s.ctl.number, dest := none, body := .commit p.set } s).setProp { s.prop with
      activity := .active { p with
        targets := settled p.targets
        phase := .committing
        outstanding := some
          { frame := { src := s.ctl.number, dest := none, body := .commit p.set }, queued := hroom } } } := by
  simp only [decideVote, hp]
  rw [if_pos (show commits s p (settleResults p.targets) = true from h), ← hr]
  change offerProposalFrame _ (mapProposal _ (withSettled p s)) = _
  rw [mapProposal_active (s := withSettled p s) rfl, offerProposalFrame_active rfl, offer_eq, offer_eq]
  rfl

theorem decideVote_aborts (h : ¬ commits s p (settled p.targets) = true) (hlead : 0 < sdiff p.epoch s.time.now) :
    decideVote s = abortProposal (windowAbortReason p (settled p.targets)) (withSettled p s) := by
  simp only [decideVote, hp]
  exact (if_neg h).trans (if_pos hlead)

theorem decideVote_closes (h : ¬ commits s p (settled p.targets) = true) (hlead : sdiff p.epoch s.time.now ≤ 0) :
    decideVote s = closeAborted (windowAbortReason p (settled p.targets)) (withSettled p s) := by
  simp only [decideVote, hp]
  exact (if_neg h).trans (if_neg (not_lt.mpr hlead))

end decision

/-- Settles O42: at its window's end the proposal commits, goes to ABORTING or closes. -/
theorem windowEndDecidesTheVote : Obligations.WindowEndDecidesTheVote := by
  intro s p e hp hphase hend hout hnone settled' lead ready reason commit abort freed
  have hreason : windowAbortReason p (settled p.targets) = reason := windowAbortReason_eq p
  have hready : commits s p (settled p.targets) = true ↔ ready := commits_iff
  have hdue : windowDue s = true ↔ e ≤ s.clock.osc := by
    simp only [windowDue, hp, hphase, hend, beq_self_eq_true, Bool.true_and, decide_eq_true_eq]
  have hany : s.line.queue.any isProposalFrame = false := List.any_eq_false.mpr (List.countP_eq_zero.mp hnone)
  have honce : s.line.queue.countP isProposalFrame ≤ 1 := by omega
  have hfreed {t : State} (h : PhaseEnds p.set (withSettled p s) t) (hseq : t.prop.sequence = s.prop.sequence) : freed t :=
    ⟨h.freed, h.stays.chans, h.stays.time, h.stays.memb, h.stays.clock, hseq, h.stays.beside, h.rest,
      h.attempt _ (fun _ hf => hf) (.inr hany), h.keeps⟩
  rw [exec_windowEnd]
  refine ⟨fun hbefore => congrArg _ (if_neg fun h => absurd (hdue.mp h) (Nat.not_le.mpr hbefore)), fun hle hr => ?_,
    fun hle hr hlead => ?_, fun hle hr hlead => ?_⟩
  · rw [if_pos (hdue.mpr hle), decideVote_commits hp (hready.mpr hr) (decide (s.line.queue.length < 12)) rfl, offer_eq]
    simp only [queueOffered, queueHasRoom_iff]
    rfl
  · rw [if_pos (hdue.mpr hle), decideVote_aborts hp (mt hready.mp hr) hlead, hreason]
    have ha := aborts_abortProposal (s := withSettled p s) rfl reason
    obtain ⟨b, hprop, -⟩ := ha.queued
    exact ⟨_, _, rfl, congrArg Proposer.activity hprop, ⟨_, rfl⟩, ha.abortQueued honce, by rw [hprop]; rfl, ha.raises,
      hfreed ha.ends (by rw [hprop]; rfl)⟩
  · rw [if_pos (hdue.mpr hle), decideVote_closes hp (mt hready.mp hr) hlead, hreason]
    have hc := closes_closeAborted (s := withSettled p s) rfl reason
    exact ⟨_, rfl, hc.outcome, hc.prop, hc.none honce, hc.raises, hfreed hc.ends (by rw [hc.prop]; rfl)⟩

end Sys2Proof.Machine


/-! PROOFS. The frames of a proposal sent: STAGE, CALL, COMMIT and ABORT (R61, R63, R64, R67, R68, R120). -/

namespace Sys2Proof.Machine

/-! ### What every frame sent leaves (R120) -/

/-- The state that the sent report of a frame finds. -/
def frameGone (s : State) (f : Frame) : State := s.setLine (lineAfterSending s f)

theorem offerWaiting_stays {s : State} (h : ∀ f, ¬ waitsForRoom s f) : offerWaiting s = s := by
  rcases offerWaiting_cases s with ⟨heq, -⟩ | ⟨p, f, hp, ho, -, -⟩
  · exact heq
  · exact absurd (waitsForRoom_iff.mpr ⟨p, hp, ho⟩) (h f)

/-- With no open proposal no frame of one waits. -/
theorem not_waitsForRoom_closed {s : State} (h : ∀ p, s.prop.activity ≠ .active p) (f : Frame) : ¬ waitsForRoom s f :=
  fun hw => let ⟨p, hp, _⟩ := waitsForRoom_iff.mp hw
    h p hp

/-- A report that changes the records, the proposal, the queue and notices alone leaves what every frame sent leaves. -/
theorem sentFrom_of_report {s x : State} {f : Frame} (hst : OthersStay (frameGone s f) x)
    (hrest : lineBystanders (frameGone s f) x)
    (hatt : x.line.attempt = none ∧ x.line.driveUntil = s.line.driveUntil) : sentFrom s (restartPresence x) := by
  obtain ⟨hbeside, hchans, htime, hmemb, hclock⟩ := hst
  obtain ⟨hobs, hsince, hstart, -, hreplies, hfail, hmute, hcount⟩ := hrest
  refine ⟨hatt.1, hfail, hobs, hsince, hstart, hreplies, hmute, hatt.2, hcount, ?_, hclock, hchans, htime, hbeside⟩
  rw [restartPresence, State.setMemb_memb, hmemb]
  rfl

/-- FRAME_SENT of a frame of the queue that is not a COMMIT past its epoch, by the report to its owner. -/
theorem exec_frameSent_report {s : State} {a : Attempt} (h : sentNow s a) (hobs : s.line.observed = some .frame)
    (hr : a.reply = false) (hover : commitOverdue s a = false) :
    exec .frameSent s = .next (offerWaiting (restartPresence (reportSent a.entry (frameGone s a.entry)))) := by
  rw [exec_frameSent h hover, if_neg (by simp [hr]), queueFrameSent_eq hobs]
  rfl

/-! ### COMMIT and ABORT sent (R67, R68) -/

/-- What arming a set's self record leaves: at most the set's INQUIRE leaves the queue. -/
structure SelfArmed (set : SetId) (s t : State) : Prop where
  claims : t.part.claims = s.part.claims
  closed : t.part.closed = s.part.closed
  same : noSelfRecord s set ∨ (∃ (i : Fin 4) (r : SetRecord), isSelfRecord s set i r ∧ r.state ≠ .voted) → t = s
  table : ∀ (i : Fin 4) (r : SetRecord), isSelfRecord s set i r → r.state = .voted →
    t.part.table = s.part.table.set i.val (some { r with state := .armed, timer := none })
  stays : OthersStay s t
  notes : t.notes = s.notes
  withdrawn : ∃ ws, (∀ f, namedBy ws f = true → isInquireFor set f = true) ∧ WithdrawnTo ws s t

theorem selfArmed_armSelf (set : SetId) (s : State) : SelfArmed set s (armSelf set s) := by
  have hstay (hsame : armSelf set s = s)
      (hno : ∀ (i : Fin 4) (r : SetRecord), isSelfRecord s set i r → r.state ≠ .voted) : SelfArmed set s (armSelf set s) := by
    rw [hsame]
    exact ⟨rfl, rfl, fun _ => rfl, fun i r hr hv => absurd hv (hno i r hr), .refl s, rfl, [], nofun, rfl, rfl, rfl, rfl⟩
  cases hfind : findSelf set s with
  | none =>
    refine hstay (by simp only [armSelf, hfind]) fun i r hr => ?_
    rw [findSelf_isSelfRecord hr] at hfind
    cases hfind
  | some i =>
    obtain ⟨r, hi, rfl, huniq⟩ := isSelfRecord_of_findSelf hfind
    by_cases hv : r.state = .voted
    · have heq : armSelf r.set s = armRecord i s := by
        simp only [armSelf, hfind, holdsRecord_at hi, hv, beq_self_eq_true, if_true]
      rw [heq]
      refine ⟨by rw [armRecord_part hi]; rfl, by rw [armRecord_part hi]; rfl, ?_, fun j q hq _ => ?_,
        (armRecord_stays hi).1, (armRecord_stays hi).2, [isInquireFor r.set], fun f hf => ?_, armRecord_withdrawn hi⟩
      · rintro (hno | ⟨j, q, hq, hnv⟩)
        · rw [findSelf_noSelfRecord hno] at hfind
          cases hfind
        · obtain ⟨-, rfl⟩ := huniq j q hq
          exact absurd hv hnv
      · obtain ⟨rfl, rfl⟩ := huniq j q hq
        rw [armRecord_part hi]
        rfl
      · rwa [namedBy_singleton] at hf
    · refine hstay ?_ fun j q hq => ?_
      · have hno : ¬ (r.state == .voted) = true := by simpa using hv
        simp only [armSelf, hfind, holdsRecord_at hi, if_neg hno]
      · obtain ⟨-, rfl⟩ := huniq j q hq
        exact hv

theorem waitsForRoom_restartPresence {s : State} {f : Frame} : waitsForRoom (restartPresence s) f ↔ waitsForRoom s f := Iff.rfl

theorem closeWith_stays (entry : LogEntry) (s : State) : OthersStay s (closeWith entry s) :=
  ⟨⟨rfl, rfl, rfl, rfl, rfl⟩, rfl, rfl, rfl, rfl⟩

/-- Settles O41: a COMMIT or an ABORT sent closes the proposal. -/
theorem commitOrAbortSentClosesTheProposal : Obligations.CommitOrAbortSentClosesTheProposal := by
  intro s a p set hsent hobs hr hp closed
  refine ⟨fun hphase hbody hbefore => ?_, fun reason abort hphase hreason hbody hlate => ?_⟩
  · have hover : commitOverdue s a = false := by
      have hno : proposerEpochDue s = false := Bool.eq_false_iff.mpr fun h => by
        obtain ⟨q, hq, hle, -⟩ := proposerEpochDue_iff.mp h
        obtain rfl := Activity.active.inj (hp.symm.trans hq)
        omega
      rw [commitOverdue, hno, Bool.and_false]
    have hreport : reportSent a.entry (frameGone s a.entry) =
        armSelf p.set (closeWith (closingEntry p none) (frameGone s a.entry)) := by
      simp only [reportSent, hbody, commitSent, closeProposal, frameGone, State.setLine_prop, hp]
    have harm := selfArmed_armSelf p.set (closeWith (closingEntry p none) (frameGone s a.entry))
    rw [← hreport] at harm
    obtain ⟨ws, hws, hw⟩ := harm.withdrawn
    have hclosed := hw.closed fun q hq => by cases hq
    have hidle : ∀ q, (reportSent a.entry (frameGone s a.entry)).prop.activity ≠ .active q := fun q hq => by
      rw [hclosed.prop] at hq
      cases hq
    have hexec := exec_frameSent_report hsent hobs hr hover
    rw [offerWaiting_stays fun f hf => not_waitsForRoom_closed hidle f (waitsForRoom_restartPresence.mp hf)] at hexec
    generalize reportSent a.entry (frameGone s a.entry) = t at *
    have hsent' : sentFrom s (restartPresence t) := sentFrom_of_report (f := a.entry)
      ((closeWith_stays _ _).trans harm.stays)
      (lineBystanders_trans (t := closeWith (closingEntry p none) (frameGone s a.entry)) ⟨rfl, rfl, rfl, rfl, rfl, rfl, rfl, rfl⟩ hw.lineAfter.rest) (hw.attempt_idle rfl)
    refine ⟨_, hexec, ⟨?_, ?_, hsent', harm.claims, harm.closed, ?_, hw.lineAfter.rest.2.2.2.1⟩, ?_, fun hno => ?_,
      fun hno => ?_, fun i r hself => ⟨fun hv => harm.table i r hself hv, fun hv => ?_⟩⟩
    · change t.prop = _
      rw [hclosed.prop]
      exact congrArg (fun log => { s.prop with activity := .idle, log := log }) (addLog_eq _ _)
    · exact (isPending_congr harm.notes harm.stays.beside.2.1 .outcome).trans (isPending_raise_self (n := .outcome) (by decide) _)
    · exact raisesOnly_trans (t := closeWith (closingEntry p none) (frameGone s a.entry)) (raisesOnly_raise rfl rfl)
        (raisesOnly_congr _ harm.notes harm.stays.beside.2.1)
    · exact hclosed.keep (fun f => !isInquireFor p.set f) fun f hf => Bool.eq_false_iff.mpr fun hn => by
        rw [hws f hn] at hf
        cases hf
    · change t.line.queue = _
      rw [hw.line, withdrawEach_none fun f hf => ?_]
      · rfl
      · refine Bool.eq_false_iff.mpr fun hn => ?_
        have := hws f hn
        rw [hno f (List.mem_of_mem_erase hf)] at this
        cases this
    · have hsame := harm.same (.inl hno)
      exact ⟨by rw [hsame]; rfl, by rw [hsame]; rfl⟩
    · have hsame := harm.same (.inr ⟨i, r, hself, hv⟩)
      exact ⟨by rw [hsame]; rfl, by rw [hsame]; rfl⟩
  · have hexec := exec_frameSent_report hsent hobs hr (commitOverdue_of_kind (by simp [hbody, Body.kind]))
    have hreport : reportSent a.entry (frameGone s a.entry) =
        closeWith (closingEntry p (some reason)) (frameGone s a.entry) := by
      simp only [reportSent, hbody, abortSent, closeProposal, frameGone, State.setLine_prop, hp, storedReason, hreason,
        Option.getD_some]
    rw [hreport, offerWaiting_stays fun f hf => not_waitsForRoom_closed (fun q hq => by cases hq) f
      (waitsForRoom_restartPresence.mp hf)] at hexec
    refine ⟨_, hexec, ⟨?_, isPending_raise_self (n := .outcome) (by decide) _, ?_, rfl, rfl, raisesOnly_raise rfl rfl, rfl⟩, rfl, rfl⟩
    · exact congrArg (fun log => { s.prop with activity := .idle, log := log }) (addLog_eq _ _)
    · exact sentFrom_of_report (f := a.entry) (closeWith_stays _ _) ⟨rfl, rfl, rfl, rfl, rfl, rfl, rfl, rfl⟩ ⟨rfl, rfl⟩

/-! ### The last STAGE sent while the self record has voted already (R32, R47, R63) -/

/-- The set of the proposal. -/
def straySet : SetId := { proposer := 0, seq := 1 }

/-- A self record that is VOTED already. -/
def strayRecord : SetRecord :=
  { set := straySet, state := .voted, epoch := none, expected := none, items := [], short := false, invalid := false
    inquiries := 0, windowEnd := none, timer := none, self := true }

/-- The last STAGE of the proposal, and the one item that it carries. -/
def lastStage : Frame := { src := 0, dest := some 7, body := .stage straySet [] }

def lastItem : DraftItem := { target := 7, item := { load := .atEpoch, channel := 3, program := holdProgram .high } }

/-- A proposal in STAGING with a self part, whose last STAGE is outstanding. -/
def strayProposal : Proposal :=
  { set := straySet, epoch := 0, phase := .staging, items := [lastItem], targets := [], selfIncluded := true, selfCount := 1
    selfResult := .pending, nextStage := 0, outstanding := some { frame := lastStage, queued := true }, callSent := false
    windowStart := none, windowEnd := none, lockLost := false, abortReason := none }

def strayAttempt : Attempt := { reply := false, entry := lastStage, sent := lastStage, start := 0 }

/-- The station whose last STAGE has just left the line, its self record VOTED. -/
def strayState : State :=
  { State.reset with
    clock := { osc := 10000, microDue := false, choices := 0 }
    part := { State.reset.part with table := #v[some strayRecord, none, none, none] }
    prop := { State.reset.prop with activity := .active strayProposal }
    line := { State.reset.line with queue := [lastStage], observed := some .frame, attempt := some strayAttempt } }

/-- The anomalies counted after a command. -/
def anomaliesAfter (c : Instr) (s : State) : Option Nat :=
  match exec c s with
  | .next t => some t.line.counters.anomalies
  | _ => none

/-- The self vote counts an anomaly, the record being past STAGING. -/
theorem anomaliesAfter_stray : anomaliesAfter .frameSent strayState = some 1 := by decide

theorem isStageGroup_lastItem : isStageGroup (strayProposal.items.drop strayProposal.nextStage) [lastItem] := by
  refine ⟨List.prefix_refl _, by simp, by decide, fun x hx y hy => ?_, fun _ x _ y hy => ?_⟩
  · rw [List.mem_singleton.mp hx, List.mem_singleton.mp hy]
  · cases hy

/-- Refutes O40: when the self record of the set is VOTED already, the self vote of the last STAGE's report counts an anomaly, and
the counters of the line do not stay. -/
theorem not_stageThenCallThenWindow : ¬ Obligations.StageThenCallThenWindow := by
  intro h
  have hsent : sentNow strayState strayAttempt := ⟨rfl, by decide⟩
  obtain ⟨hstage, -⟩ := h strayState strayAttempt strayProposal hsent rfl rfl List.mem_cons_self rfl (by decide)
  obtain ⟨t, hexec, hfrom, -⟩ := (hstage straySet [] [lastItem] rfl rfl isStageGroup_lastItem).2 (by decide) (by decide)
    (by decide)
  obtain ⟨-, -, -, -, -, -, -, -, hcounters, -⟩ := hfrom
  have hone := anomaliesAfter_stray
  rw [anomaliesAfter, hexec] at hone
  have hzero : t.line.counters.anomalies = 0 := congrArg Counters.anomalies hcounters
  simp [hzero] at hone

end Sys2Proof.Machine


/-! PROOFS. Records freed together: the purge of a rejoined station and the loss of lock (R37, R49, R50, R105). -/

namespace Sys2Proof.Machine

/-! ### Withdrawals see the line and the proposal alone -/

theorem Apart.withdrawEach {g : State → State} (hg : Apart g) (ws : List (Frame → Bool)) (s : State) :
    withdrawEach ws (g s) = g (withdrawEach ws s) := by
  induction ws generalizing s with
  | nil => rfl
  | cons w ws ih =>
    change Machine.withdrawEach ws (Machine.withdrawFrame w (g s)) = g (Machine.withdrawEach ws (Machine.withdrawFrame w s))
    rw [hg.withdrawFrame, ih]

/-- The line and the proposal of one state, with the clock and the straps, in the surroundings of another. -/
def inPlaceOf (u t : State) : State := { u with clock := t.clock, ctl := t.ctl, prop := t.prop, line := t.line }

theorem apart_inPlaceOf (u : State) : Apart (inPlaceOf u) where
  clock _ := rfl
  ctl _ := rfl
  prop _ := rfl
  line _ := rfl
  setLine _ _ := rfl
  setProp _ _ := rfl

theorem withdrawEach_clock (ws : List (Frame → Bool)) (s : State) : (withdrawEach ws s).clock = s.clock := by
  rw [withdrawEach_frame]; rfl

theorem withdrawEach_ctl (ws : List (Frame → Bool)) (s : State) : (withdrawEach ws s).ctl = s.ctl := by
  rw [withdrawEach_frame]; rfl

theorem WithdrawnTo.refl (s : State) : WithdrawnTo [] s s := ⟨rfl, rfl, rfl, rfl⟩

theorem WithdrawnTo.trans {ws vs : List (Frame → Bool)} {s t u : State} (h : WithdrawnTo ws s t) (h' : WithdrawnTo vs t u) :
    WithdrawnTo (ws ++ vs) s u := by
  have happ : withdrawEach (ws ++ vs) s = withdrawEach vs (withdrawEach ws s) := List.foldl_append
  have hplace : t = inPlaceOf t (withdrawEach ws s) := by
    unfold inPlaceOf
    rw [withdrawEach_clock, withdrawEach_ctl, ← h.line, ← h.prop, ← h.clock, ← h.ctl]
  have hafter : withdrawEach vs t = inPlaceOf t (withdrawEach vs (withdrawEach ws s)) := by
    rw [← (apart_inPlaceOf t).withdrawEach, ← hplace]
  refine ⟨h'.line.trans ?_, h'.prop.trans ?_, h'.clock.trans h.clock, h'.ctl.trans h.ctl⟩
  · rw [hafter, happ]; rfl
  · rw [hafter, happ]; rfl

/-- A state that agrees on the line and the proposal has seen the same withdrawals. -/
theorem WithdrawnTo.congr {ws : List (Frame → Bool)} {s t u : State} (h : WithdrawnTo ws s t) (hline : u.line = t.line)
    (hprop : u.prop = t.prop) (hclock : u.clock = t.clock) (hctl : u.ctl = t.ctl) : WithdrawnTo ws s u :=
  ⟨hline.trans h.line, hprop.trans h.prop, hclock.trans h.clock, hctl.trans h.ctl⟩

/-! ### INQUIREs of several sets withdrawn (R37) -/

/-- The kinds are INQUIREs for sets. -/
def Inquires (ws : List (Frame → Bool)) : Prop := ∀ w ∈ ws, ∃ set, w = isInquireFor set

theorem Inquires.append {ws vs : List (Frame → Bool)} (h : Inquires ws) (h' : Inquires vs) : Inquires (ws ++ vs) :=
  fun w hw => (List.mem_append.mp hw).elim (h w) (h' w)

theorem Inquires.namedBy_proposal {ws : List (Frame → Bool)} (h : Inquires ws) (f : Frame) (hf : isProposalFrame f = true) :
    namedBy ws f = false := by
  by_contra hne
  obtain ⟨w, hw, hn⟩ := List.any_eq_true.mp (Bool.of_not_eq_false hne)
  obtain ⟨set, rfl⟩ := h w hw
  have hno := namedBy_inquire_of_proposal set f hf
  rw [namedBy_singleton, hn] at hno
  cases hno

theorem Inquires.oncePerKind {ws : List (Frame → Bool)} (h : Inquires ws) {s : State}
    (honce : ∀ set, s.line.queue.countP (isInquireFor set) ≤ 1) : OncePerKind ws s := fun w hw => by
  obtain ⟨set, rfl⟩ := h w hw
  exact honce set

theorem namedBy_append (ws vs : List (Frame → Bool)) (f : Frame) : namedBy (ws ++ vs) f = (namedBy ws f || namedBy vs f) :=
  List.any_append

/-! ### The records of some positions freed -/

/-- Each record of the positions that satisfies the predicate is freed, one after the other. -/
def freeAt (which : SetRecord → Bool) (l : List (Fin 4)) (s : State) : State :=
  l.foldl (fun t i => if holdsRecord which t i then freeRecord i t else t) s

/-- A record of the positions satisfies the predicate. -/
def picked (which : SetRecord → Bool) (l : List (Fin 4)) (s : State) (r : SetRecord) : Prop :=
  which r = true ∧ ∃ i ∈ l, s.part.table[i] = some r

/-- What the records' end leaves. -/
structure Frees (which : SetRecord → Bool) (l : List (Fin 4)) (s t : State) : Prop where
  stays : OthersStay s t
  notes : t.notes = s.notes
  closed : t.part.closed = s.part.closed
  table : ∀ i : Fin 4, t.part.table[i] = if i ∈ l ∧ s.part.table[i].any which = true then none else s.part.table[i]
  released : ∀ (c : Fin 16) (r : SetRecord), picked which l s r → r.state ≠ .staging → r.items.any (onChannel c) = true →
    s.part.claims[c] = some r.set → t.part.claims[c] = none
  held : ∀ c : Fin 16, (∀ r, picked which l s r → r.state ≠ .staging → r.items.any (onChannel c) = true →
    s.part.claims[c] ≠ some r.set) → t.part.claims[c] = s.part.claims[c]
  withdrawn : ∃ ws, Inquires ws ∧ WithdrawnTo ws s t ∧
    ∀ f, namedBy ws f = true ↔ ∃ r, picked which l s r ∧ isInquireFor r.set f = true

theorem picked_cons {which : SetRecord → Bool} {i : Fin 4} {l : List (Fin 4)} {s t : State} (h : Frees which [i] s t)
    (r : SetRecord) : picked which (i :: l) s r ↔ picked which [i] s r ∨ picked which l t r := by
  have hsame {j : Fin 4} (hj : j ≠ i) : t.part.table[j] = s.part.table[j] := by rw [h.table, if_neg (by simp [hj])]
  constructor
  · rintro ⟨hr, j, hj, hi⟩
    rcases eq_or_ne j i with rfl | hne
    · exact .inl ⟨hr, j, List.mem_singleton_self j, hi⟩
    · exact .inr ⟨hr, j, List.mem_of_ne_of_mem hne hj, (hsame hne).trans hi⟩
  · rintro (⟨hr, j, hj, hi⟩ | ⟨hr, j, hj, hi⟩)
    · exact ⟨hr, j, List.mem_cons.mpr (.inl (List.mem_singleton.mp hj)), hi⟩
    · refine ⟨hr, j, List.mem_cons_of_mem _ hj, ?_⟩
      rw [h.table] at hi
      split at hi
      · cases hi
      · exact hi

/-- A claim that is there afterwards was there before. -/
theorem Frees.claim {which : SetRecord → Bool} {l : List (Fin 4)} {s t : State} (h : Frees which l s t) (c : Fin 16) :
    t.part.claims[c] = none ∨ t.part.claims[c] = s.part.claims[c] := by
  by_cases hex : ∃ r, picked which l s r ∧ r.state ≠ .staging ∧ r.items.any (onChannel c) = true ∧
      s.part.claims[c] = some r.set
  · obtain ⟨r, hr, hst, hc, hclaim⟩ := hex
    exact .inl (h.released c r hr hst hc hclaim)
  · exact .inr (h.held c fun r hr hst hc hclaim => hex ⟨r, hr, hst, hc, hclaim⟩)

theorem Frees.cons {which : SetRecord → Bool} {i : Fin 4} {l : List (Fin 4)} {s t u : State} (h : Frees which [i] s t)
    (h' : Frees which l t u) : Frees which (i :: l) s u := by
  obtain ⟨ws, hws, hw, hnamed⟩ := h.withdrawn
  obtain ⟨vs, hvs, hv, hnamed'⟩ := h'.withdrawn
  refine ⟨h.stays.trans h'.stays, h'.notes.trans h.notes, h'.closed.trans h.closed, fun j => ?_, fun c r hr hst hc hclaim => ?_,
    fun c hno => ?_, ws ++ vs, hws.append hvs, hw.trans hv, fun f => ?_⟩
  · rw [h'.table, h.table]
    by_cases hfirst : j ∈ [i] ∧ s.part.table[j].any which = true
    · rw [if_pos hfirst, ite_self]
      exact (if_pos ⟨List.mem_cons.mpr (.inl (List.mem_singleton.mp hfirst.1)), hfirst.2⟩).symm
    · rw [if_neg hfirst]
      refine if_congr (and_congr_left fun hany => ⟨List.mem_cons_of_mem _, fun hj => ?_⟩) rfl rfl
      exact (List.mem_cons.mp hj).resolve_left fun hj => hfirst ⟨List.mem_singleton.mpr hj, hany⟩
  · rcases (picked_cons h r).mp hr with hr | hr
    · exact (h'.claim c).elim id (·.trans (h.released c r hr hst hc hclaim))
    · rcases h.claim c with hnone | hsame
      · exact (h'.claim c).elim id (·.trans hnone)
      · exact h'.released c r hr hst hc (hsame.trans hclaim)
  · have hsame := h.held c fun r hr => hno r ((picked_cons h r).mpr (.inl hr))
    rw [← hsame]
    exact h'.held c fun r hr hst hc => hsame ▸ hno r ((picked_cons h r).mpr (.inr hr)) hst hc
  · rw [namedBy_append, Bool.or_eq_true, hnamed, hnamed']
    constructor
    · rintro (⟨r, hr, hf⟩ | ⟨r, hr, hf⟩)
      · exact ⟨r, (picked_cons h r).mpr (.inl hr), hf⟩
      · exact ⟨r, (picked_cons h r).mpr (.inr hr), hf⟩
    · rintro ⟨r, hr, hf⟩
      exact ((picked_cons h r).mp hr).imp (⟨r, ·, hf⟩) (⟨r, ·, hf⟩)

/-- One record freed, or the position left. -/
theorem frees_position (which : SetRecord → Bool) (i : Fin 4) (s : State) :
    Frees which [i] s (if holdsRecord which s i then freeRecord i s else s) := by
  cases hheld : holdsRecord which s i with
  | false =>
    have hno : ∀ r, ¬ picked which [i] s r := fun r ⟨hr, j, hj, hi⟩ => by
      obtain rfl := List.mem_singleton.mp hj
      rw [holdsRecord_iff.mpr ⟨r, hi, hr⟩] at hheld
      cases hheld
    have hany : ¬ s.part.table[i].any which = true := by
      rw [← holdsRecord_eq, hheld]
      decide
    refine ⟨.refl s, rfl, rfl, fun j => ?_, fun c r hr => absurd hr (hno r), fun _ _ => rfl, [], nofun, .refl s, fun f => ?_⟩
    · refine (if_neg ?_).symm
      rintro ⟨hj, hj'⟩
      rw [List.mem_singleton.mp hj] at hj'
      exact hany hj'
    · exact iff_of_false Bool.false_ne_true fun ⟨r, hr, _⟩ => hno r hr
  | true =>
    obtain ⟨r, hi, hr⟩ := holdsRecord_iff.mp hheld
    have hpick {q : SetRecord} : picked which [i] s q ↔ q = r := by
      refine ⟨fun ⟨_, j, hj, hq⟩ => ?_, fun h => ⟨h ▸ hr, i, List.mem_singleton_self i, h ▸ hi⟩⟩
      rw [List.mem_singleton.mp hj] at hq
      exact Option.some.inj (hq.symm.trans hi)
    obtain ⟨hstays, hnotes⟩ := freeRecord_stays i s
    rw [if_pos rfl]
    refine ⟨hstays, hnotes, freeRecord_closed hi, fun j => ?_, fun c q hq hst hc hclaim => ?_, fun c hno => ?_,
      [isInquireFor r.set], fun w hw => ⟨r.set, List.mem_singleton.mp hw⟩, freeRecord_withdrawn hi, fun f => ?_⟩
    · rw [freeRecord_part hi]
      by_cases hj : j = i
      · subst hj
        rw [freedAt_table_same, if_pos ⟨List.mem_singleton_self j, by rw [hi]; exact hr⟩]
      · rw [freedAt_table_other r s hj, if_neg fun h => hj (List.mem_singleton.mp h.1)]
    · obtain rfl := hpick.mp hq
      rw [freeRecord_part hi, freedAt_claim, if_pos ⟨hst, hc, hclaim⟩]
    · rw [freeRecord_part hi, freedAt_claim, if_neg fun ⟨hst, hc, hclaim⟩ => hno r (hpick.mpr rfl) hst hc hclaim]
    · rw [namedBy_singleton]
      exact ⟨fun hf => ⟨r, hpick.mpr rfl, hf⟩, fun ⟨q, hq, hf⟩ => hpick.mp hq ▸ hf⟩

theorem frees_freeAt (which : SetRecord → Bool) (l : List (Fin 4)) (s : State) : Frees which l s (freeAt which l s) := by
  induction l generalizing s with
  | nil =>
    have hno : ∀ r, ¬ picked which [] s r := fun r ⟨_, i, hi, _⟩ => by cases hi
    exact ⟨.refl s, rfl, rfl, fun i => (if_neg fun h => by cases h.1).symm, fun c r hr => absurd hr (hno r), fun _ _ => rfl,
      [], nofun, .refl s, fun f => iff_of_false Bool.false_ne_true fun ⟨r, hr, _⟩ => hno r hr⟩
  | cons i l ih => exact (frees_position which i s).cons (ih _)

theorem freeMatching_eq (which : SetRecord → Bool) (s : State) :
    freeMatching which s = raiseIf (positions.any (holdsRecord which s)) .setDropped (freeAt which positions s) := rfl

theorem picked_positions {which : SetRecord → Bool} {s : State} {r : SetRecord} :
    picked which positions s r ↔ which r = true ∧ ∃ i : Fin 4, s.part.table[i] = some r :=
  and_congr_right fun _ => ⟨fun ⟨i, _, hi⟩ => ⟨i, hi⟩, fun ⟨i, hi⟩ => ⟨i, mem_positions i, hi⟩⟩

/-! ### PRESENCE (R102, R103, R105, R50) -/

theorem exec_presence {s : State} {src : Station} (h : memberReceives s src) (lock : LockState) {records slots : Byte}
    (hr : records.toNat ≤ 4) (hs : slots.toNat ≤ 32) (join : Bool) :
    exec (.presence src lock records slots join) s =
      .next (if join then joinEffect src (reportPresence src lock records.toNat slots.toNat (delivered src s))
        else reportPresence src lock records.toNat slots.toNat (delivered src s)) :=
  have hform : (Body.presence lock records slots join).formed src = true := by simp [Body.formed, hr, hs]
  congrArg _ (receiveFrame_delivered h hform _)

/-- The sender's entry after its PRESENCE. -/
def presentEntry (s : State) (lock : LockState) (records slots : Byte) : MemberEntry :=
  { state := .present, missed := 0, heard := true, lastHeard := some s.time.now, lock := some lock
    records := some records.toNat, slots := some slots.toNat }

/-- The state in which a PRESENCE has been reported. -/
def presenceReported (s : State) (src : Station) (lock : LockState) (records slots : Byte) : State :=
  { afterFrame s with
    memb := { s.memb with entries := s.memb.entries.set src.val (presentEntry s lock records slots) }
    notes :=
      if s.memb.entries[src].state = .absent ∨ s.memb.entries[src].state = .silent then
        { s.notes with flags := s.notes.flags ||| 256 }
      else s.notes }

theorem reportPresence_delivered (s : State) (src : Station) (lock : LockState) (records slots : Byte) :
    reportPresence src lock records.toNat slots.toNat (delivered src s) = presenceReported s src lock records slots := by
  simp [reportPresence, putMember, delivered, heardFrom, presenceReported, presentEntry, afterFrame, State.setMemb]
  rfl

/-- The records of a station's sets. -/
def ofProposer (p : Station) (r : SetRecord) : Bool := r.set.proposer == p

theorem purgeProposer_eq (p : Station) (s : State) :
    purgeProposer p s =
      (freeMatching (ofProposer p) s).setPart { (freeMatching (ofProposer p) s).part with
        closed := (freeMatching (ofProposer p) s).part.closed.filter fun e => e.set.proposer != p } := rfl

/-- What records freed together leave: SET_DROPPED when there was one (R49, R50). -/
theorem freeMatching_dropped {which : SetRecord → Bool} {s : State} {i : Fin 4} (h : s.part.table[i].any which = true) :
    isPending .setDropped (freeMatching which s) = true := by
  have hhit : positions.any (holdsRecord which s) = true :=
    List.any_eq_true.mpr ⟨i, mem_positions i, by rw [holdsRecord_eq]; exact h⟩
  rw [freeMatching_eq, hhit]
  exact isPending_raise_self (by decide) _

theorem frees_freeMatching (which : SetRecord → Bool) (s : State) :
    (freeMatching which s).part = (freeAt which positions s).part ∧ OthersStay s (freeMatching which s) ∧
      raisesOnly [.setDropped] s (freeMatching which s) ∧
      ∀ ws, WithdrawnTo ws s (freeAt which positions s) → WithdrawnTo ws s (freeMatching which s) := by
  have h := frees_freeAt which positions s
  refine ⟨?_, raiseIf_stays h.stays _ _, ?_, fun ws hw => hw.raiseIf _ _⟩
  · rw [freeMatching_eq, raiseIf_frame, State.setNotes_part]
  · exact raisesOnly_trans (raisesOnly_congr _ h.notes h.stays.beside.2.1) (raisesOnly_raiseIf _ _ _)

/-- A claim of a channel without a swap is a record's (R27). -/
theorem record_of_claim {s : State} (hclaims : ClaimsSound s) {c : Fin 16} {set : SetId} (hset : s.part.claims[c] = some set)
    (hswap : s.chans[c].pending = none) : ∃ (i : Fin 4) (r : SetRecord), s.part.table[i] = some r ∧ r.set = set ∧
      r.state ≠ .staging ∧ r.items.any (onChannel c) = true := by
  obtain ⟨-, -, hheld⟩ := hclaims c
  have hno : swapHolder s c = none := by rw [swapHolder, hswap]; rfl
  rcases hheld (by simp [hset]) with hswap' | ⟨i, hi⟩
  · rw [hno, hset] at hswap'
    cases hswap'
  · rw [hset] at hi
    unfold recordHolder at hi
    split at hi
    next r hr =>
      split at hi
      next hst => exact ⟨i, r, hr, Option.some.inj hi, hst⟩
      next => cases hi
    next => cases hi

/-- A claim is released with the records of its set's proposer, unless a swap waits for its boundary (R27, R50). -/
theorem Frees.claim_ofProposer {p : Station} {s t : State} (h : Frees (ofProposer p) positions s t) (hclaims : ClaimsSound s)
    (c : Fin 16) : t.part.claims[c] =
      if (s.part.claims[c].any (fun x => x.proposer == p)) = true ∧ s.chans[c].pending = none then none
      else s.part.claims[c] := by
  split
  next hc =>
    obtain ⟨hany, hswap⟩ := hc
    obtain ⟨set, hset, hp⟩ := Option.any_eq_true _ _ |>.mp hany
    obtain ⟨i, r, hr, rfl, hst, hitem⟩ := record_of_claim hclaims hset hswap
    exact h.released c r (picked_positions.mpr ⟨hp, i, hr⟩) hst hitem hset
  next hc =>
    refine h.held c fun r hr hst hitem hclaim => hc ?_
    obtain ⟨hp, i, hi⟩ := picked_positions.mp hr
    exact ⟨by rw [hclaim]; exact hp, (claim_of_record hclaims hi hst hitem).2⟩

/-- Settles O35: a PRESENCE reports its sender, and a join announcement purges its sets. -/
theorem presenceReportsAndJoinPurges : Obligations.PresenceReportsAndJoinPurges := by
  intro s src lock records slots hm hrec hslots entry memb
  rw [exec_presence hm lock hrec hslots, exec_presence hm lock hrec hslots, reportPresence_delivered]
  refine ⟨rfl, fun hclaims => ?_⟩
  have hfrees := frees_freeAt (ofProposer src) positions (presenceReported s src lock records slots)
  obtain ⟨hpart, hstays, hraises, hwith⟩ := frees_freeMatching (ofProposer src) (presenceReported s src lock records slots)
  have hdropped (i : Fin 4) := freeMatching_dropped (which := ofProposer src)
    (s := presenceReported s src lock records slots) (i := i)
  obtain ⟨ws, hws, hw, hnamed⟩ := hfrees.withdrawn
  have hw := hwith ws hw
  rw [if_pos rfl, joinEffect, purgeProposer_eq]
  generalize freeMatching (ofProposer src) (presenceReported s src lock records slots) = t at *
  have hclaim := hfrees.claim_ofProposer (t := freeAt (ofProposer src) positions _) hclaims
  have htable := hfrees.table
  have hclosed := hfrees.closed
  rw [← hpart] at hclaim htable hclosed
  have hafter := hw.congr (u := raise .member (t.setPart { t.part with
    closed := t.part.closed.filter fun e => e.set.proposer != src })) rfl rfl rfl rfl
  refine ⟨_, rfl, isPending_raise_self (by decide) _, fun i => ?_, ?_, hstays.chans, fun ⟨i, hi⟩ => ?_, hclaim, hstays.memb,
    ?_, hstays.time, hstays.clock, ?_, ?_, hw.lineAfter.rest, fun _ => hw.attempt_idle hm.2.1.1, fun honce hout => ?_⟩
  · refine (htable i).trans (if_congr ?_ rfl rfl)
    exact and_iff_right (mem_positions i)
  · change t.part.closed.filter _ = _
    rw [hclosed]
    rfl
  · rw [isPending_raise (by decide)]
    exact Bool.or_eq_true_iff.mpr (.inl (hdropped i hi))
  · exact proposerStays_withdrawEach (s := presenceReported s src lock records slots) hws.namedBy_proposal hafter.outcome
  · obtain ⟨hctl, hcapt, hport, hpending, henable⟩ := hstays.beside
    refine ⟨hctl, hcapt, hport, hpending, henable.trans ?_⟩
    simp only [presenceReported]
    split <;> rfl
  · refine raisesOnly_trans (t := presenceReported s src lock records slots) ?_
      (raisesOnly_trans (t := t) (raisesOnly_mono hraises (by simp)) ?_)
    · have hreported : raisesOnly [.member] (delivered src s) (presenceReported s src lock records slots) :=
        raisesOnly_congr _ rfl rfl
      exact raisesOnly_mono (raisesOnly_trans (raisesOnly_delivered src s) hreported) (by simp)
    · exact raisesOnly_mono (raisesOnly_raise rfl rfl) (by simp)
  · refine withdraws_withdrawEach (s := presenceReported s src lock records slots) hws.namedBy_proposal
      (hws.oncePerKind honce) hout (fun f => (hnamed f).trans ?_) hafter.outcome
    constructor
    · rintro ⟨r, hr, hf⟩
      obtain ⟨hp, i, hi⟩ := picked_positions.mp hr
      exact ⟨i, r, hi, beq_iff_eq.mp hp, hf⟩
    · rintro ⟨i, r, hi, hp, hf⟩
      exact ⟨r, picked_positions.mpr ⟨beq_iff_eq.mpr hp, i, hi⟩, hf⟩

end Sys2Proof.Machine


/-! PROOFS. The loss of lock, block by block (R17, R37, R49, R71, R88, R90, R91). -/

namespace Sys2Proof.Machine

/-! ### The reactions, in their order (R91) -/

/-- The Time Unit and the Output Unit have lost lock. -/
def outputsLost (s : State) : State := outputsLoseLock (timeLosesLock (raise .lock (s.setTime { s.time with lock := .unlocked })))

/-- The records have gone too. -/
def recordsLost (s : State) : State := freeMatching (fun _ => true) (outputsLost s)

theorem setLock_unlocked {s : State} (h : s.time.lock = .holdover ∨ s.time.lock = .acquiring) :
    setLock .unlocked s = proposerLosesLock (recordsLost s) := by
  have hne : ¬ s.time.lock = .unlocked ∧ ¬ s.time.lock = .locked := by rcases h with h | h <;> simp [h]
  simp only [setLock, if_neg hne.1, if_neg hne.2]
  rfl

theorem supervisionNext_unlocked {s : State} {n : Nat} (hn : s.time.supervision = some n)
    (h : s.time.lock = .holdover ∧ 2000000 ≤ n ∨ s.time.lock = .acquiring ∧ 300000 ≤ n) :
    supervisionNext s = some .unlocked := by
  rcases h with ⟨hl, hle⟩ | ⟨hl, hle⟩ <;> simp only [supervisionNext, hl, hn] <;> exact if_pos hle

/-! ### The outputs (R17, R27) -/

theorem outputsLost_chan (s : State) (c : Fin 16) : (outputsLost s).chans[c] =
    match s.chans[c].policy with
    | .forceSafe => { s.chans[c] with active := holdProgram s.chans[c].safe, anchor := 0, pending := none }
    | .continue => { s.chans[c] with pending := none } := by
  change (s.chans.map loseLock)[c] = _
  rw [Fin.getElem_fin, Vector.getElem_map]
  rfl

theorem outputsLost_claim {s : State} (h : ClaimsSound s) (c : Fin 16) :
    (outputsLost s).part.claims[c] = if s.chans[c].pending = none then s.part.claims[c] else none := by
  have heq : (outputsLost s).part.claims[c] =
      match s.chans[c].pending with
      | some w => if s.part.claims[c] = some w.set then none else s.part.claims[c]
      | none => s.part.claims[c] := by
    change (Vector.ofFn _)[c] = _
    rw [Fin.getElem_fin, Vector.getElem_ofFn]
    rfl
  rw [heq]
  split
  next w hw => rw [if_pos (claim_of_swap h hw), if_neg (by rw [hw]; exact Option.some_ne_none w)]
  next hnone => rw [if_pos hnone]

theorem outputsLost_time (s : State) : (outputsLost s).time = { s.time with
    lock := .unlocked
    supervision := none
    selfSource := if s.ctl.state = .joining ∨ s.ctl.state = .member then some 0 else none } := by
  have hcan : canSelfSource s = true ↔ s.ctl.state = .joining ∨ s.ctl.state = .member := by simp [canSelfSource]
  have htime : (outputsLost s).time = { s.time with
      lock := .unlocked, supervision := none, selfSource := if canSelfSource s then some 0 else none } := rfl
  simp only [htime, hcan]

/-- The outputs' loss reaches time, notices, channels and claims alone. -/
theorem outputsLost_frame (s : State) : ∃ x n ch p, outputsLost s = (((s.setTime x).setNotes n).setChans ch).setPart p ∧
    p.table = s.part.table ∧ p.closed = s.part.closed ∧ n = (raise .lock s).notes :=
  ⟨_, _, _, _, rfl, rfl, rfl, rfl⟩

/-! ### The records (R49) -/

/-- What the records' end leaves, seen from the state before the loss. -/
structure RecordsLost (s t : State) : Prop where
  table : ∀ i : Fin 4, t.part.table[i] = none
  claims : ∀ c : Fin 16, t.part.claims[c] = none
  closed : t.part.closed = s.part.closed
  dropped : (∃ i : Fin 4, s.part.table[i] ≠ none) → isPending .setDropped t = true
  lock : isPending .lock t = true
  raises : raisesOnly [.lock, .setDropped] s t
  time : t.time = (outputsLost s).time
  chans : t.chans = (outputsLost s).chans
  memb : t.memb = s.memb
  beside : bystanders s t
  withdrawn : ∃ ws, Inquires ws ∧ WithdrawnTo ws s t ∧
    ∀ f, namedBy ws f = true ↔ ∃ (i : Fin 4) (r : SetRecord), s.part.table[i] = some r ∧ isInquireFor r.set f = true

theorem recordsLost_spec {s : State} (h : ClaimsSound s) : RecordsLost s (recordsLost s) := by
  have hfrees := frees_freeAt (fun _ => true) positions (outputsLost s)
  obtain ⟨hpart, hstays, hraises, hwith⟩ := frees_freeMatching (fun _ => true) (outputsLost s)
  have hdropped (i : Fin 4) := freeMatching_dropped (which := fun _ => true) (s := outputsLost s) (i := i)
  obtain ⟨ws, hws, hw, hnamed⟩ := hfrees.withdrawn
  have hlost := hwith ws hw
  have hclaim := outputsLost_claim h
  obtain ⟨x, n, ch, p, hframe, htable, hclosed, hnotes⟩ := outputsLost_frame s
  have hpick {r : SetRecord} : picked (fun _ => true) positions (outputsLost s) r ↔ ∃ i : Fin 4, s.part.table[i] = some r := by
    rw [picked_positions, and_iff_right rfl, hframe]
    simp only [State.setPart_part, htable]
  unfold recordsLost
  generalize freeMatching (fun _ => true) (outputsLost s) = t at *
  generalize freeAt (fun _ => true) positions (outputsLost s) = v at *
  refine ⟨fun i => ?_, fun c => ?_, ?_, fun ⟨i, hi⟩ => hdropped i ?_, ?_, ?_, hstays.time, hstays.chans, ?_, ?_, ws, hws,
    ?_, fun f => (hnamed f).trans ?_⟩
  · rw [hpart, hfrees.table]
    cases hi : (outputsLost s).part.table[i] with
    | none => exact ite_self _
    | some r => exact if_pos ⟨mem_positions i, rfl⟩
  · rw [hpart]
    rcases hfrees.claim c with hnone | hsame
    · exact hnone
    · rw [hsame, hclaim]
      split
      next hswap =>
        cases hset : s.part.claims[c] with
        | none => rfl
        | some set =>
          obtain ⟨i, r, hi, rfl, hst, hitem⟩ := record_of_claim h hset hswap
          have hclaimed : (outputsLost s).part.claims[c] = some r.set := by rw [hclaim, if_pos hswap, hset]
          have hnone := hfrees.released c r (hpick.mpr ⟨i, hi⟩) hst hitem hclaimed
          rw [hsame, hclaimed] at hnone
          cases hnone
      next => rfl
  · rw [hpart, hfrees.closed, hframe, State.setPart_part, hclosed]
  · obtain ⟨r, hr⟩ := Option.ne_none_iff_exists'.mp hi
    rw [hframe, State.setPart_part, htable, hr]
    rfl
  · rw [hraises .lock (by decide), hframe, hnotes]
    exact isPending_raise_self (n := .lock) (by decide) s
  · refine raisesOnly_trans (t := outputsLost s) ?_ (raisesOnly_mono hraises (by simp))
    have hlock : raisesOnly [.lock] s (outputsLost s) := by
      rw [hframe, hnotes]
      exact raisesOnly_raise rfl rfl
    exact raisesOnly_mono hlock (by simp)
  · rw [hstays.memb, hframe]
    rfl
  · obtain ⟨hctl, hcapt, hport, hpending, henable⟩ := hstays.beside
    rw [hframe] at hctl hcapt hport hpending henable
    rw [hnotes] at henable
    exact ⟨hctl, hcapt, hport, hpending, henable⟩
  · have hplace : WithdrawnTo [] s (outputsLost s) := by
      rw [hframe]
      exact ⟨rfl, rfl, rfl, rfl⟩
    exact hplace.trans hlost
  · exact ⟨fun ⟨r, hr, hf⟩ => (hpick.mp hr).elim fun i hi => ⟨i, r, hi, hf⟩, fun ⟨i, r, hi, hf⟩ => ⟨r, hpick.mpr ⟨i, hi⟩, hf⟩⟩

/-! ### The proposer (R71) -/

theorem proposerLosesLock_stays {s : State} (h : ∀ p, s.prop.activity = .active p → p.phase = .aborting) :
    proposerLosesLock s = s := by
  unfold proposerLosesLock
  split
  next p hp => simp only [h p hp]
  next => rfl

theorem proposerLosesLock_voting {s : State} {p : Proposal} (hp : s.prop.activity = .active p) (hphase : p.phase = .voting) :
    proposerLosesLock s = s.setProp { s.prop with activity := .active { p with lockLost := true } } := by
  simp only [proposerLosesLock, hp, hphase]
  rfl

theorem proposerLosesLock_aborts {s : State} {p : Proposal} (hp : s.prop.activity = .active p)
    (hphase : p.phase = .staging ∨ p.phase = .calling ∨ p.phase = .committing) :
    proposerLosesLock s = abortProposal .lockLost s := by
  rcases hphase with h | h | h <;> simp only [proposerLosesLock, hp, h]

theorem freeSelf_none {s : State} {set : SetId} (h : noSelfRecord s set) : freeSelf set s = s := by
  simp only [freeSelf, findSelf_noSelfRecord h]

/-- With every record gone the abort changes the line and the proposal alone. -/
theorem abortProposal_empty {s : State} {p : Proposal} (hp : s.prop.activity = .active p)
    (hempty : ∀ i : Fin 4, s.part.table[i] = none) (reason : AbortReason) : abortProposal reason s = abortOffered p reason s := by
  rw [abortProposal_offered hp, freeSelf_none fun i => ?_]
  change Option.any _ s.part.table[i] = false
  rw [hempty i]
  rfl

/-! ### The ABORT after withdrawals (R62, R68) -/

theorem length_eraseP_lt {l : List Frame} {f : Frame} (hmem : f ∈ l) (hf : isProposalFrame f = true) (hlen : l.length ≤ 12) :
    (l.eraseP isProposalFrame).length < 12 := by
  have := List.length_pos_of_mem hmem
  rw [List.length_eraseP, if_pos (List.any_eq_true.mpr ⟨f, hmem, hf⟩)]
  omega

/-- The ABORT is in the queue exactly when it found room, whatever withdrawals went before it. -/
theorem WithdrawnTo.abort_queued {ws : List (Frame → Bool)} {s t : State} (h : WithdrawnTo ws s t)
    (hws : ∀ f, isProposalFrame f = true → namedBy ws f = false) (honce : s.line.queue.countP isProposalFrame ≤ 1) {f : Frame}
    (hf : isProposalFrame f = true) :
    (t.line.queue.eraseP isProposalFrame).length < 12 ↔ f ∈ queueOffered f (t.line.queue.eraseP isProposalFrame) := by
  rcases h.outcome with h | ⟨p, g, h⟩
  · exact (mem_abortOffered (h.sublist.countP_le.trans honce) hf).1
  · cases hg : isProposalFrame g with
    | false => exact (mem_abortOffered ((h.countP _ hg).trans honce) hf).1
    | true =>
      have hmem : g ∈ t.line.queue := by
        rw [← List.count_pos_iff, h.count (hws g hg)]
        exact Nat.succ_pos _
      have hroom := length_eraseP_lt hmem hg h.room
      exact iff_of_true hroom (by rw [queueOffered, if_pos hroom]; exact mem_insertFrame.mpr (.inl rfl))

/-- Withdrawals of other owners' frames leave at most one frame of the proposal (R62). -/
theorem WithdrawnTo.proposal_once {ws : List (Frame → Bool)} {s t : State} (h : WithdrawnTo ws s t)
    (hws : ∀ f, isProposalFrame f = true → namedBy ws f = false) (howners : OwnersSound s) :
    t.line.queue.countP isProposalFrame ≤ 1 := by
  obtain ⟨-, -, -, -, -, -, ⟨hqueued, honce⟩, -⟩ := id howners
  rcases h.outcome with h | ⟨p, f, h⟩
  · exact h.sublist.countP_le.trans honce
  · rw [outstandingFrame_active h.active, h.waits] at hqueued
    have hnone : ∀ g ∈ s.line.queue, ¬ isProposalFrame g = true := List.any_eq_false.mp hqueued
    have hf := howners.outstanding { frame := f, queued := false } (by rw [outstandingFrame_active h.active, h.waits])
    have hsame : ∀ g ∈ t.line.queue, isProposalFrame g = true ↔ (g == f) = true := fun g hg => by
      rw [beq_iff_eq]
      exact ⟨fun hp => (h.mem g hg).elim id fun hs => absurd hp (hnone g hs.1), fun he => he ▸ hf⟩
    rw [List.countP_congr hsame]
    change t.line.queue.count f ≤ 1
    rw [h.count (hws f hf), List.count_eq_zero.mpr fun hmem => hnone f hmem hf]

/-- The ABORT finds room when the queue had some, or when one of its frames goes (R62, R115). -/
theorem WithdrawnTo.abort_room {ws : List (Frame → Bool)} {s t : State} (h : WithdrawnTo ws s t)
    (hws : ∀ f, isProposalFrame f = true → namedBy ws f = false) (howners : OwnersSound s)
    (hgone : ∀ f ∈ t.line.queue, namedBy ws f = false) (hlen : s.line.queue.length ≤ 12)
    (hroom : s.line.queue.length < 12 ∨ ∃ f ∈ s.line.queue, namedBy ws f = true ∨ isProposalFrame f = true) :
    (t.line.queue.eraseP isProposalFrame).length < 12 := by
  have hle : (t.line.queue.eraseP isProposalFrame).length ≤ t.line.queue.length := List.eraseP_sublist.length_le
  have hshort := h.length
  rcases hroom with hlt | ⟨f, hmem, hf⟩
  · omega
  · rcases h.outcome with h | ⟨p, g, h⟩
    · rcases hf with hf | hf
      · have hne : t.line.queue.length ≠ s.line.queue.length := fun heq => by
          have hno := hgone f (by rw [h.sublist.eq_of_length heq]; exact hmem)
          rw [hno] at hf
          cases hf
        omega
      · have hstay : f ∈ t.line.queue :=
          (mem_of_filter (h.keep _ fun x hx => by rw [of_decide_eq_true hx]; exact hws f hf)).mpr hmem
        exact length_eraseP_lt hstay hf (hshort.trans hlen)
    · have hg := howners.outstanding { frame := g, queued := false } (by rw [outstandingFrame_active h.active, h.waits])
      have hstay : g ∈ t.line.queue := by
        rw [← List.count_pos_iff, h.count (hws g hg)]
        exact Nat.succ_pos _
      exact length_eraseP_lt hstay hg h.room

/-! ### The line through withdrawals and the ABORT (R116) -/

theorem WithdrawnTo.mem_stays {ws : List (Frame → Bool)} {s t : State} (h : WithdrawnTo ws s t) {f : Frame}
    (hf : namedBy ws f = false) (hmem : f ∈ s.line.queue) : f ∈ t.line.queue := by
  have hsingle : ∀ x, decide (x = f) = true → namedBy ws x = false := fun x hx => by rwa [of_decide_eq_true hx]
  rcases h.outcome with h | ⟨p, g, h⟩
  · exact (mem_of_filter (h.keep _ hsingle)).mpr hmem
  · by_cases heq : g = f
    · subst heq
      rw [← List.count_pos_iff, h.count hf]
      exact Nat.succ_pos _
    · exact (mem_of_filter (h.keep _ hsingle (decide_eq_false heq))).mpr hmem

theorem LineAfter.trans {ws vs : List (Frame → Bool)} {s t u : State} (h : LineAfter ws s t) (h' : LineAfter vs t u)
    (hclock : t.clock = s.clock) (hctl : t.ctl = s.ctl)
    (hkept : ∀ f ∈ s.line.queue, namedBy ws f = false → f ∈ t.line.queue) : LineAfter (ws ++ vs) s u := by
  have hsplit (f : Frame) : namedBy (ws ++ vs) f = (namedBy ws f || namedBy vs f) := namedBy_append ws vs f
  refine ⟨lineBystanders_trans h.rest h'.rest, fun hall => ?_, fun a ha hr hmem hn => ?_⟩
  · simp only [hsplit, Bool.or_eq_true, not_or] at hall
    obtain ⟨hatt, hdrive⟩ := h.stays fun a ha => (hall a ha).imp_right (·.1)
    obtain ⟨hatt', hdrive'⟩ := h'.stays fun a ha => (hall a (hatt ▸ ha)).imp_right (·.2)
    exact ⟨hatt'.trans hatt, hdrive'.trans hdrive⟩
  · cases hw : namedBy ws a.entry with
    | true =>
      obtain ⟨hatt, hdrive⟩ := h.aborted a ha hr hmem hw
      obtain ⟨hatt', hdrive'⟩ := h'.stays fun b hb => by rw [hatt] at hb; cases hb
      exact ⟨hatt'.trans hatt, hdrive'.trans hdrive⟩
    | false =>
      have hv : namedBy vs a.entry = true := by rwa [hsplit, hw, Bool.false_or] at hn
      obtain ⟨hatt, -⟩ := h.stays fun b hb => by
        obtain rfl := Option.some.inj (ha.symm.trans hb)
        exact .inr (by simp [hw])
      rw [← driveEnd_congr hclock hctl a]
      exact h'.aborted a (hatt.trans ha) hr (hkept _ hmem hw) hv

theorem LineAfter.congr {ws : List (Frame → Bool)} {s t u : State} (h : LineAfter ws s t) (hline : u.line = t.line) :
    LineAfter ws s u := by
  refine ⟨?_, ?_, ?_⟩
  · unfold lineBystanders
    rw [hline]
    exact h.rest
  · unfold attemptStays
    rw [hline]
    exact h.stays
  · rw [hline]
    exact h.aborted

theorem lineAfter_abortOffered (p : Proposal) (reason : AbortReason) (s : State) :
    LineAfter [isProposalFrame] s (abortOffered p reason s) := by
  obtain ⟨hrest, hstays, haborted⟩ := lineAfter_recalled s
  exact ⟨hrest, hstays, haborted⟩

/-! ### Every block (R91) -/

/-- The frames that ask about a record of this station. -/
def asksOfRecord (s : State) (f : Frame) : Prop :=
  ∃ (i : Fin 4) (r : SetRecord), s.part.table[i] = some r ∧ isInquireFor r.set f = true

/-- What the loss leaves of the transmit queue and the line when the proposal keeps its frame. -/
theorem RecordsLost.queue {s t : State} (h : RecordsLost s t) (howners : OwnersSound s)
    (honce : ∀ set, s.line.queue.countP (isInquireFor set) ≤ 1) :
    withdraws (asksOfRecord s) s t.line.queue ∧ abortedOnLine (asksOfRecord s) s t ∧ attemptStays (asksOfRecord s) s t := by
  obtain ⟨ws, hws, hw, hnamed⟩ := h.withdrawn
  exact ⟨withdraws_withdrawEach hws.namedBy_proposal (hws.oncePerKind honce) howners.outstanding hnamed hw.outcome,
    hw.aborted fun f hf => (hnamed f).mpr hf, attemptStays_mono hw.lineAfter.stays fun f hf => (hnamed f).mp hf⟩

/-- What the loss leaves when the proposal goes to ABORTING. -/
theorem RecordsLost.aborting {s t : State} (h : RecordsLost s t) {p : Proposal} {reason : AbortReason} (hqueue : QueueSound s)
    (howners : OwnersSound s) (honce : ∀ set, s.line.queue.countP (isInquireFor set) ≤ 1) {f : Frame}
    (hf : isProposalFrame f = true)
    (hT : (abortOffered p reason t).line.queue = queueOffered f (t.line.queue.eraseP isProposalFrame)) :
    let u := abortOffered p reason t
    (∀ g ∈ u.line.queue, ¬ asksOfRecord s g) ∧
      keepsQueued (fun g => asksOfRecord s g ∨ isProposalFrame g = true) s u.line.queue ∧
      abortedOnLine (asksOfRecord s) s u ∧ attemptStays (fun g => asksOfRecord s g ∨ isProposalFrame g = true) s u ∧
      (∀ g ∈ u.line.queue, isProposalFrame g = true → g = f) ∧
      (s.line.queue.length < 12 ∨ (∃ g ∈ s.line.queue, asksOfRecord s g ∨ isProposalFrame g = true) → f ∈ u.line.queue) ∧
      (f ∈ u.line.queue → ∀ keep : Frame → Bool, (∀ g, keep g = true ↔ ¬ asksOfRecord s g ∧ isProposalFrame g = false) →
        u.line.queue = insertFrame f (s.line.queue.filter keep)) ∧
      abortedOnLine (isProposalFrame · = true) s u := by
  intro u
  obtain ⟨⟨hnoask, -⟩, -⟩ := h.queue howners honce
  obtain ⟨ws, hws, hw, hnamed⟩ := h.withdrawn
  have hnamed' (g : Frame) : namedBy ws g = true ↔ asksOfRecord s g := hnamed g
  have hone := hw.proposal_once hws.namedBy_proposal howners
  have hline := hw.lineAfter.trans (lineAfter_abortOffered p reason t) hw.clock hw.ctl fun g hg hn => hw.mem_stays hn hg
  have hclock : u.clock = s.clock := hw.clock
  have hctl : u.ctl = s.ctl := hw.ctl
  have hboth (g : Frame) : namedBy (ws ++ [isProposalFrame]) g = true ↔ asksOfRecord s g ∨ isProposalFrame g = true := by
    rw [namedBy_append, Bool.or_eq_true, hnamed', namedBy_singleton]
  have hkeep {keep : Frame → Bool} (hk : ∀ g, keep g = true → ¬ asksOfRecord s g ∧ isProposalFrame g = false) :
      t.line.queue.filter keep = s.line.queue.filter keep :=
    hw.keeps howners.outstanding fun g hg => ⟨(hk g hg).2, Bool.eq_false_iff.mpr (mt (hnamed' g).mp (hk g hg).1)⟩
  obtain ⟨hmem, honly⟩ := mem_abortOffered hone hf
  change u.line.queue = _ at hT
  refine ⟨fun g hg hask => ?_, fun keep hk => ?_, abortedOnLine_withdrawEach hline hclock hctl fun g hg => (hboth g).mpr (.inl hg),
    attemptStays_mono hline.stays fun g hg => (hboth g).mp hg, by rwa [hT], fun hroom => ?_, fun hin keep hk => ?_,
    abortedOnLine_withdrawEach hline hclock hctl fun g hg => (hboth g).mpr (.inr hg)⟩
  · rw [hT] at hg
    rcases mem_queueOffered hg with rfl | hg
    · have := hws.namedBy_proposal _ hf
      rw [(hnamed' _).mpr hask] at this
      cases this
    · exact hnoask g (List.mem_of_mem_eraseP hg) hask
  · have hk' : ∀ g, keep g = true → ¬ asksOfRecord s g ∧ isProposalFrame g = false := fun g hg =>
      ⟨fun ha => hk g hg (.inl ha), Bool.eq_false_iff.mpr fun hp => hk g hg (.inr hp)⟩
    have hkf : keep f = false := Bool.eq_false_iff.mpr fun h => hk f h (.inr hf)
    rw [hT, filter_queueOffered hkf, filter_eraseP fun g hg => (hk' g hg).2, hkeep hk']
  · rw [hT]
    refine hmem.mp (hw.abort_room hws.namedBy_proposal howners (fun g hg => ?_) hqueue.1 (hroom.imp_right fun ⟨g, hg, hor⟩ =>
      ⟨g, hg, hor.imp_left (hnamed' g).mpr⟩))
    exact Bool.eq_false_iff.mpr (mt (hnamed' g).mp (hnoask g hg))
  · rw [hT] at hin ⊢
    rw [queueOffered, if_pos (hmem.mpr hin), eraseP_eq_filter hone, ← hkeep fun g hg => (hk g).mp hg]
    refine congrArg _ (List.filter_congr fun g hg => ?_)
    rw [Bool.eq_iff_iff, hk, Bool.not_eq_true', and_iff_right (hnoask g hg)]

/-- Beside the line and the proposal the proposer's reaction leaves everything. -/
structure ReactsAlone (s t : State) : Prop where
  frame : ∃ l q, t = (s.setLine l).setProp q
  rest : lineBystanders s t

theorem ReactsAlone.refl (s : State) : ReactsAlone s s := ⟨⟨s.line, s.prop, rfl⟩, rfl, rfl, rfl, rfl, rfl, rfl, rfl, rfl⟩

theorem reactsAlone_abortOffered (p : Proposal) (reason : AbortReason) (s : State) :
    ReactsAlone s (abortOffered p reason s) := ⟨⟨_, _, rfl⟩, (lineAfter_abortOffered p reason s).rest⟩

/-- The proposer's reaction, by the phase of the proposal. -/
theorem proposerLosesLock_alone {s : State} (hempty : ∀ i : Fin 4, s.part.table[i] = none) :
    ReactsAlone s (proposerLosesLock s) := by
  cases hact : s.prop.activity with
  | active p =>
    cases hphase : p.phase with
    | staging | calling | committing =>
      rw [proposerLosesLock_aborts hact (by simp [hphase]), abortProposal_empty hact hempty]
      exact reactsAlone_abortOffered p _ s
    | voting =>
      rw [proposerLosesLock_voting hact hphase]
      exact ⟨⟨s.line, _, rfl⟩, rfl, rfl, rfl, rfl, rfl, rfl, rfl, rfl⟩
    | aborting =>
      rw [proposerLosesLock_stays fun q hq => by rw [← Activity.active.inj (hact.symm.trans hq), hphase]]
      exact .refl s
  | idle | drafting d =>
    rw [proposerLosesLock_stays fun q hq => by rw [hact] at hq; cases hq]
    exact .refl s

theorem abortFrame_congr {s t : State} (h : t.ctl = s.ctl) (set : SetId) (reason : AbortReason) :
    abortFrame t set reason = { src := s.ctl.number, dest := none, body := .abort set reason } := by
  rw [abortFrame, h]

/-- Settles O45: the loss of lock reaches the outputs, the records, the claims, the proposal and the transmit queue. -/
theorem lossOfLockReachesEveryBlock : Obligations.LossOfLockReachesEveryBlock := by
  intro s n hclaims hn hlock
  have hexec := exec_supervisionExpiry_due (supervisionNext_unlocked hn hlock)
  rw [setLock_unlocked (hlock.imp (·.1) (·.1))] at hexec
  have hlost := recordsLost_spec hclaims
  have htime : (recordsLost s).time = { s.time with
      lock := .unlocked
      supervision := none
      selfSource := if s.ctl.state = .joining ∨ s.ctl.state = .member then some 0 else none } := by
    rw [hlost.time, outputsLost_time]
  have hchans : ∀ c : Fin 16, (recordsLost s).chans[c] =
      match s.chans[c].policy with
      | .forceSafe => { s.chans[c] with active := holdProgram s.chans[c].safe, anchor := 0, pending := none }
      | .continue => { s.chans[c] with pending := none } := fun c => by rw [hlost.chans, outputsLost_chan]
  generalize recordsLost s = u at *
  obtain ⟨ws, hws, hw, hnamed⟩ := id hlost.withdrawn
  have hprop := proposerStays_withdrawEach hws.namedBy_proposal hw.outcome
  obtain ⟨⟨l, q, hframe⟩, hrest⟩ := proposerLosesLock_alone hlost.table
  have hactive (p : Proposal) (hp : s.prop.activity = .active p) :
      ∃ out, frameStays p.outstanding out s u ∧ u.prop.activity = .active { p with outstanding := out } ∧
        u.prop = { s.prop with activity := .active { p with outstanding := out } } := by
    obtain ⟨out, hout, heq⟩ := hprop.2 p hp
    exact ⟨out, hout, by rw [heq], heq⟩
  have hkept : (∀ p, s.prop.activity = .active p → p.phase = .aborting) → proposerLosesLock u = u := fun hall =>
    proposerLosesLock_stays fun p' hp' => by
      cases hact : s.prop.activity with
      | active p =>
        obtain ⟨out, -, hact', -⟩ := hactive p hact
        rw [← Activity.active.inj (hact'.symm.trans hp')]
        exact hall p hact
      | idle | drafting d =>
        have hnone : ∀ p, s.prop.activity ≠ .active p := fun p hp => by
          rw [hact] at hp
          cases hp
        rw [hprop.1 hnone, hact] at hp'
        cases hp'
  have hvoting {p : Proposal} (hp : s.prop.activity = .active p) (hphase : p.phase = .voting) :
      ∃ out, frameStays p.outstanding out s u ∧
        proposerLosesLock u = u.setProp
          { s.prop with activity := .active { p with lockLost := true, outstanding := out } } := by
    obtain ⟨out, hout, hact, heq⟩ := hactive p hp
    refine ⟨out, hout, ?_⟩
    rw [proposerLosesLock_voting hact hphase, heq]
  have haborts {p : Proposal} (hp : s.prop.activity = .active p)
      (hphase : p.phase = .staging ∨ p.phase = .calling ∨ p.phase = .committing) :
      ∃ out, u.prop = { s.prop with activity := .active { p with outstanding := out } } ∧
        proposerLosesLock u = abortOffered { p with outstanding := out } .lockLost u := by
    obtain ⟨out, -, hact, heq⟩ := hactive p hp
    exact ⟨out, heq, by rw [proposerLosesLock_aborts hact hphase, abortProposal_empty hact hlost.table]⟩
  have hleaves : (proposerLosesLock u).time = u.time ∧ (proposerLosesLock u).chans = u.chans ∧
      (proposerLosesLock u).part = u.part ∧ (proposerLosesLock u).memb = u.memb ∧ (proposerLosesLock u).clock = u.clock ∧
      (proposerLosesLock u).notes = u.notes ∧ bystanders u (proposerLosesLock u) := by
    rw [hframe]
    exact ⟨rfl, rfl, rfl, rfl, rfl, rfl, rfl, rfl, rfl, rfl, rfl⟩
  obtain ⟨htime', hchans', hpart', hmemb', hclock', hnotes', hbeside'⟩ := hleaves
  have hpending (m : Notice) : isPending m (proposerLosesLock u) = isPending m u :=
    isPending_congr hnotes' hbeside'.2.1 m
  have hbystanders : bystanders s (proposerLosesLock u) := by
    obtain ⟨hctl, hcapt, hport, hpend, henable⟩ := hlost.beside
    obtain ⟨hctl', hcapt', hport', hpend', henable'⟩ := hbeside'
    exact ⟨hctl'.trans hctl, hcapt'.trans hcapt, hport'.trans hport, hpend'.trans hpend, henable'.trans henable⟩
  refine ⟨_, hexec, htime'.trans htime, (hpending _).trans hlost.lock, fun c => (congrArg (·[c]) hchans').trans (hchans c),
    fun i => by rw [hpart', hlost.table], fun c => by rw [hpart', hlost.claims], by rw [hpart', hlost.closed],
    fun hi => (hpending _).trans (hlost.dropped hi), fun hall => by rw [hkept hall]; exact hprop,
    fun p hp => ⟨fun hphase => ?_, fun hphase => ?_⟩, hmemb'.trans hlost.memb, hclock'.trans hw.clock, hbystanders,
    lineBystanders_trans hw.lineAfter.rest hrest, fun m hm => (hpending m).trans (hlost.raises m hm), ?_⟩
  · intro abort
    obtain ⟨out, heq, hT⟩ := haborts hp hphase
    rw [hT]
    have habort : abortFrame u p.set .lockLost = abort := abortFrame_congr hw.ctl _ _
    refine ⟨decide ((u.line.queue.eraseP isProposalFrame).length < 12), ?_, fun honce => ?_⟩
    · rw [← habort]
      simp only [abortOffered, State.setProp_prop, heq]
    · rw [← habort, decide_eq_true_iff]
      exact hw.abort_queued hws.namedBy_proposal honce (isProposalFrame_abort _ _ _)
  · obtain ⟨out, hout, hT⟩ := hvoting hp hphase
    rw [hT]
    exact ⟨out, hout, rfl⟩
  · intro hqueue howners honce asks
    obtain ⟨hwith, hab, hatt⟩ := hlost.queue howners honce
    by_cases hphase : ∃ p, s.prop.activity = .active p ∧ (p.phase = .staging ∨ p.phase = .calling ∨ p.phase = .committing)
    · obtain ⟨p, hp, hphase⟩ := hphase
      obtain ⟨out, heq, hT⟩ := haborts hp hphase
      obtain ⟨hnoask, hkeeps, hask, hgoes, honly, hroom, hexact, hprops⟩ := hlost.aborting hqueue howners honce
        (p := { p with outstanding := out }) (reason := .lockLost) (isProposalFrame_abort u p.set .lockLost) rfl
      rw [abortFrame_congr hw.ctl] at honly hroom hexact
      rw [hT]
      refine ⟨hnoask, hkeeps, fun hall => ?_, hask, hgoes, fun q hq _ => ?_⟩
      · rcases hphase with h | h | h <;> rcases hall p hp with h' | h' <;> rw [h] at h' <;> cases h'
      · obtain rfl := Activity.active.inj (hp.symm.trans hq)
        exact ⟨honly, hroom, hexact, hprops⟩
    · have hline : (proposerLosesLock u).line = u.line := by
        cases hact : s.prop.activity with
        | active p =>
          cases hp : p.phase with
          | staging | calling | committing => exact absurd ⟨p, hact, by simp [hp]⟩ hphase
          | voting =>
            obtain ⟨out, -, hT⟩ := hvoting hact hp
            rw [hT, State.setProp_line]
          | aborting => rw [hkept fun q hq => by rw [← Activity.active.inj (hact.symm.trans hq), hp]]
        | idle | drafting d => rw [hkept fun q hq => by rw [hact] at hq; cases hq]
      have hlineAfter := hw.lineAfter.congr hline
      refine ⟨by rw [hline]; exact hwith.1, fun keep hk => ?_, fun _ => by rw [hline]; exact hwith,
        abortedOnLine_withdrawEach hlineAfter (hclock'.trans hw.clock) (hbeside'.1.trans hw.ctl) fun f hf => (hnamed f).mpr hf,
        attemptStays_mono hlineAfter.stays fun f hf => .inl ((hnamed f).mp hf), fun p hp h => absurd ⟨p, hp, h⟩ hphase⟩
      rw [hline]
      refine hw.keeps howners.outstanding fun f hf => ⟨Bool.eq_false_iff.mpr fun h => hk f hf (.inr h), ?_⟩
      exact Bool.eq_false_iff.mpr fun h => hk f hf (.inl ((hnamed f).mp h))

end Sys2Proof.Machine


/-! PROOFS. An accepted SUBMIT (R46, R59, R61, R73). -/

namespace Sys2Proof.Machine

/-! ### The next STAGE (R61) -/

/-- What follows the longest stretch that satisfies a predicate does not satisfy it. -/
theorem getElem?_length_takeWhile {α : Type} {p : α → Bool} {l : List α} {y : α} (h : l[(l.takeWhile p).length]? = some y) :
    p y = false := by
  induction l with
  | nil => simp at h
  | cons x l ih =>
    cases hx : p x with
    | true =>
      rw [List.takeWhile_cons_of_pos hx, List.length_cons, List.getElem?_cons_succ] at h
      exact ih h
    | false =>
      rw [List.takeWhile_cons_of_neg (by simp [hx])] at h
      obtain rfl : x = y := by simpa using h
      exact hx

/-- The items that the model takes next are the group of R61. -/
theorem isStageGroup_cons (d : DraftItem) (l : List DraftItem) :
    isStageGroup (d :: l) ((d :: l.takeWhile fun x => x.target == d.target).take 4) := by
  have htarget : ∀ x ∈ (d :: l.takeWhile fun x => x.target == d.target).take 4, x.target = d.target := fun x hx => by
    rcases List.mem_cons.mp (List.mem_of_mem_take hx) with rfl | hx
    · rfl
    · exact beq_iff_eq.mp (List.mem_takeWhile_imp (p := fun x : DraftItem => x.target == d.target) hx)
  refine ⟨(List.take_prefix _ _).trans (List.prefix_cons_inj d |>.mpr (List.takeWhile_prefix _)), by simp,
    List.length_take_le _ _, fun x hx y hy => (htarget x hx).trans (htarget y hy).symm, fun hlen x hx y hy => ?_⟩
  rw [List.length_take] at hlen hy
  rw [Nat.min_eq_right (by omega), List.length_cons, List.getElem?_cons_succ] at hy
  rw [htarget x hx]
  simpa using getElem?_length_takeWhile hy

/-! ### The targets (R54, R59) -/

theorem targets_ascending {own : Station} {d : Draft} (h : d.items.Pairwise draftOrder) :
    (targetEntries own d.items).Pairwise fun x y => x.station.val < y.station.val := by
  have hle : (d.items.map (·.target)).Pairwise fun a b => a.val ≤ b.val := by
    rw [List.pairwise_map]
    exact h.imp fun hxy => hxy.elim Nat.le_of_lt fun h => h.1 ▸ Nat.le_refl _
  rw [targetEntries, List.pairwise_map]
  have hsub : (otherTargets own d.items).Sublist (d.items.map (·.target)) :=
    (List.dedup_sublist _).trans List.filter_sublist
  have hnodup : (otherTargets own d.items).Nodup := List.nodup_dedup _
  exact ((hle.sublist hsub).and hnodup).imp fun ⟨hle, hne⟩ => lt_of_le_of_ne hle fun he => hne (Fin.ext he)

/-! ### The self record (R46) -/

theorem findRecord_held {s : State} {set : SetId} (h : ¬ noRecord s set) : ∃ i, findRecord set s = some i := by
  rw [← Option.isSome_iff_exists]
  by_contra hne
  refine h fun i hi => ?_
  obtain ⟨r, hr, hset⟩ := Option.map_eq_some_iff.mp hi
  exact findRecord_none (Option.not_isSome_iff_eq_none.mp hne) hr hset

theorem offer_queueOffered (f : Frame) (s : State) :
    offer f s = s.setLine { s.line with queue := queueOffered f s.line.queue } := by
  rw [offer_eq, queueOffered]
  simp only [queueHasRoom_iff]

/-! ### The proposal that a SUBMIT opens (R59) -/

/-- The state before the first STAGE: the sequence counter advanced, the self record made when the draft has items for it. -/
def selfMade (d : Draft) (s : State) : State :=
  if itemsFor s.ctl.number d = [] then sequenceAdvanced s
  else createSelf { proposer := s.ctl.number, seq := s.prop.sequence } (itemsFor s.ctl.number d) (sequenceAdvanced s)

/-- The proposal of a draft, before its first STAGE is offered. -/
def opened (d : Draft) (s : State) : Proposal :=
  proposalOf s.ctl.number { proposer := s.ctl.number, seq := s.prop.sequence } d

theorem acceptSubmit_eq (d : Draft) (s : State) : acceptSubmit d s =
    if remoteItems s.ctl.number d.items = [] then
      decideSelfOnly { proposer := s.ctl.number, seq := s.prop.sequence } (itemsFor s.ctl.number d).length d.epoch (selfMade d s)
    else enqueueStage (setActivity (.active (opened d s)) (selfMade d s)) := by
  simp only [acceptSubmit, selfItems_eq, List.isEmpty_iff, selfMade]
  rfl

/-- The first STAGE is offered. -/
theorem enqueueStage_eq {s : State} {p : Proposal} (hp : s.prop.activity = .active p) (hn : p.nextStage = 0)
    {d : DraftItem} {l : List DraftItem} (hl : p.items = d :: l) :
    ∃ rest, isStageGroup p.items (d :: rest) ∧
      enqueueStage s = offerProposalFrame
        { src := s.ctl.number, dest := some d.target, body := .stage p.set ((d :: rest).map (·.item)) } s := by
  refine ⟨(l.takeWhile fun x => x.target == d.target).take 3, ?_, ?_⟩
  · rw [hl]
    exact isStageGroup_cons d l
  · simp only [enqueueStage, hp, nextStageItems, hn, hl, List.drop_zero]
    rfl

/-- The first STAGE of a draft's proposal. -/
def firstStage (s : State) (first : DraftItem) (rest : List DraftItem) : Frame :=
  { src := s.ctl.number, dest := some first.target
    body := .stage { proposer := s.ctl.number, seq := s.prop.sequence } ((first :: rest).map (·.item)) }

/-- The state that an accepted SUBMIT leaves, but for its response. -/
def submitted (d : Draft) (s : State) (table : Vector (Option SetRecord) 4) (f : Frame) : State :=
  { s with
    part := { s.part with table := table }
    line := { s.line with queue := queueOffered f s.line.queue }
    prop :=
      { s.prop with
        sequence := nextSequence s.prop.sequence
        activity := .active { opened d s with
          outstanding := some { frame := f, queued := decide (s.line.queue.length < 12) } } } }

theorem offerProposalFrame_submitted (d : Draft) {s u : State} {table : Vector (Option SetRecord) 4}
    (h : u = (sequenceAdvanced s).setPart { s.part with table := table }) (f : Frame) :
    offerProposalFrame f (setActivity (.active (opened d s)) u) = submitted d s table f := by
  have hroom : queueHasRoom (setActivity (.active (opened d s)) u) = decide (s.line.queue.length < 12) := by
    rw [h]; rfl
  rw [offerProposalFrame_active (p := opened d s) rfl, hroom, offer_queueOffered, h]
  rfl

theorem remoteItems_eq_nil {own : Station} {d : Draft} : remoteItems own d.items = [] ↔ ∀ x ∈ d.items, x.target = own := by
  simp [remoteItems, List.filter_eq_nil_iff]

theorem selfMade_table (d : Draft) (s : State) :
    selfMade d s = (sequenceAdvanced s).setPart { s.part with table := (selfMade d s).part.table } := by
  unfold selfMade
  split
  · rfl
  · exact createSelf_frame _ _ _

/-- An accepted SUBMIT with an item for another station. -/
theorem exec_submit_opens {s : State} {d : Draft} (hc : carriesCommand s = true) (hd : s.prop.activity = .drafting d)
    (hchecks : (submitChecks s d).all (·.1) = true) (hother : ∃ x ∈ d.items, x.target ≠ s.ctl.number) :
    ∃ first rest, isStageGroup (opened d s).items (first :: rest) ∧ exec (.submit []) s = .next
      (withResponse (submitted d s (selfMade d s).part.table (firstStage s first rest)) 9 .ok []) := by
  have hremote : remoteItems s.ctl.number d.items ≠ [] := fun hnil => by
    obtain ⟨x, hx, hne⟩ := hother
    exact hne (remoteItems_eq_nil.mp hnil x hx)
  obtain ⟨first, l, hl⟩ := List.exists_cons_of_ne_nil hremote
  obtain ⟨rest, hgroup, hstage⟩ := enqueueStage_eq (s := setActivity (.active (opened d s)) (selfMade d s))
    (p := opened d s) rfl rfl hl
  refine ⟨first, rest, hgroup, ?_⟩
  rw [exec_submit hc, ownSubmit_drafting hd, if_pos (firstFailure_passes hchecks), acceptSubmit_eq, if_neg hremote, hstage,
    storeResponse_answer, offerProposalFrame_submitted d (selfMade_table d s)]
  have hnum : (setActivity (.active (opened d s)) (selfMade d s)).ctl.number = s.ctl.number := by
    rw [selfMade_table d s]; rfl
  rw [hnum]
  rfl

theorem mem_targets {own st : Station} {d : Draft} :
    (∃ x ∈ targetEntries own d.items, x.station = st) ↔ st ≠ own ∧ ∃ x ∈ d.items, x.target = st := by
  rw [← mem_otherTargets, targetEntries]
  simp

theorem stations_nodup (own : Station) (d : Draft) : ((targetEntries own d.items).map (·.station)).Nodup := by
  have hsame : (targetEntries own d.items).map (·.station) = otherTargets own d.items := by
    simp [targetEntries, Function.comp_def]
  rw [hsame]
  exact List.nodup_dedup _

theorem selfIncluded_eq (own : Station) (d : Draft) :
    (!(selfItems own d.items).isEmpty) = d.items.any fun x => x.target == own := by
  rw [Bool.eq_iff_iff]
  simp [selfItems, List.filter_eq_nil_iff]

/-- With no item for this station, or with the set id held, the table stays. -/
theorem selfMade_keeps {d : Draft} {s : State} (h : itemsFor s.ctl.number d = [] ∨
    ¬ noRecord s { proposer := s.ctl.number, seq := s.prop.sequence }) : (selfMade d s).part.table = s.part.table := by
  unfold selfMade
  split
  next => rfl
  next hne =>
    obtain ⟨i, hi⟩ := findRecord_held (s := sequenceAdvanced s) (h.resolve_left hne)
    rw [createSelf_held hi]
    rfl

/-- Else the self record takes the lowest empty position. -/
theorem selfMade_new {d : Draft} {s : State} (hitems : itemsFor s.ctl.number d ≠ [])
    (hno : noRecord s { proposer := s.ctl.number, seq := s.prop.sequence }) {i : Fin 4} (hi : s.part.table[i] = none)
    (hlow : ∀ j, j < i → s.part.table[j] ≠ none) :
    (selfMade d s).part.table[i] =
        some (newRecord { proposer := s.ctl.number, seq := s.prop.sequence } (itemsFor s.ctl.number d) true) ∧
      ∀ j, j ≠ i → (selfMade d s).part.table[j] = s.part.table[j] := by
  have hmade : selfMade d s = putRecord i
      (some (newRecord { proposer := s.ctl.number, seq := s.prop.sequence } (itemsFor s.ctl.number d) true))
      (sequenceAdvanced s) := (if_neg hitems).trans (createSelf_new (s := sequenceAdvanced s) hno hi hlow _)
  rw [hmade]
  exact ⟨putRecord_same _ _ _, fun j hj => putRecord_other _ _ hj⟩

/-- Settles O13: an accepted SUBMIT opens its proposal, or refuses a self-only set whose id is held. -/
theorem submitOpensTheProposal : Obligations.SubmitOpensTheProposal := by
  refine ⟨fun s d hc hd hchecks hother => ?_, ?_⟩
  · obtain ⟨first, rest, hgroup, hexec⟩ := exec_submit_opens hc hd hchecks hother
    refine ⟨_, _, hexec, rfl, rfl, rfl, rfl, rfl, fun st => ?_, fun x hx => ?_, ?_, targets_ascending, ?_, ?_, rfl, rfl, rfl,
      rfl, rfl, rfl, rfl, ⟨first, rest, hgroup, rfl, rfl⟩, rfl, rfl, rfl, rfl, rfl, rfl, rfl, rfl, rfl, rfl, rfl, rfl, rfl,
      fun h => ?_, fun i hitems hno hi hlow => ?_⟩
    · exact mem_targets
    · obtain ⟨st, -, rfl⟩ := List.mem_map.mp hx
      exact ⟨countFor_eq st d, rfl⟩
    · exact stations_nodup s.ctl.number d
    · exact selfIncluded_eq s.ctl.number d
    · change (selfItems s.ctl.number d.items).length = _
      rw [selfItems_eq, length_itemsFor]
    · exact selfMade_keeps h
    · exact selfMade_new hitems hno hi hlow
  · intro s d hc hd hchecks hself set hheld hnoself hclosed
    obtain ⟨-, hne, -⟩ := submitChecks_self_only hchecks hself
    have hmade : selfMade d s = sequenceAdvanced s := by
      unfold selfMade
      rw [if_neg hne]
      obtain ⟨i, hi⟩ := findRecord_held (s := sequenceAdvanced s) hheld
      exact createSelf_held hi
    have hexec := exec_submit hc
    rw [ownSubmit_drafting hd, if_pos (firstFailure_passes hchecks), acceptSubmit_eq,
      if_pos (remoteItems_eq_nil.mpr hself), hmade, storeResponse_answer] at hexec
    have hfind : findSelf set (sequenceAdvanced s) = none := findSelf_noSelfRecord (s := sequenceAdvanced s) hnoself
    have hverdict : selfVerdict set (itemsFor s.ctl.number d).length d.epoch (sequenceAdvanced s) = .refused .unknownSet := by
      rw [selfVerdict, hfind, voteVerdict_none, if_neg (show ¬ closedFor (sequenceAdvanced s) set .noRoom from hclosed)]
    have hcast : castSelfVote set (itemsFor s.ctl.number d).length d.epoch (sequenceAdvanced s) = sequenceAdvanced s := by
      rw [castSelfVote, hfind]
      rfl
    have hdecide : decideSelfOnly set (itemsFor s.ctl.number d).length d.epoch (sequenceAdvanced s) =
        closeWith (selfOnlyEntry set d.epoch (.refused .unknownSet)) (sequenceAdvanced s) := by
      simp only [decideSelfOnly, hverdict, hcast]
      rfl
    rw [hdecide, withResponse_closeWith] at hexec
    exact ⟨_, hexec, rfl, isPending_raised (by decide) rfl rfl, rfl, rfl, rfl, rfl, rfl, rfl, raisesOnly_raise rfl rfl⟩

end Sys2Proof.Machine


/-! PROOFS. A sample of the capture inputs (R144 to R149). -/

namespace Sys2Proof.Machine

/-! ### What a run of offered records leaves -/

/-- The record that a sample taken in a state makes of the edge on an input (R146). -/
def edgeRecord (s : State) (lostBefore : Nat) (j : Fin 8) : CaptureRecord :=
  { input := j, edge := if s.capt.pins[j] = .high then .rising else .falling, time := s.time.now, quality := s.time.lock
    lostBefore := lostBefore }

/-- The edges of a run for which the capture queue has room (R148). -/
def keptOf (c : Capture) (seen : List (Fin 8)) : List (Fin 8) := seen.take (32 - c.queue.length)

/-- The edges of a run that are dropped (R149). -/
def lostOf (c : Capture) (seen : List (Fin 8)) : Nat := seen.length - (keptOf c seen).length

/-- The pending-lost count behind the records that were kept (R146). -/
def carriedOf (c : Capture) (seen : List (Fin 8)) : Nat := if keptOf c seen = [] then c.pendingLost else 0

/-- The Capture Unit once a run of edges has been offered to its queue (R146, R148, R149). -/
def capturesOffered (record : Nat → Fin 8 → CaptureRecord) (seen : List (Fin 8)) (c : Capture) : Capture :=
  { c with
    queue := c.queue ++ ((keptOf c seen).take 1).map (record c.pendingLost) ++ ((keptOf c seen).drop 1).map (record 0)
    pendingLost := if lostOf c seen = 0 then carriedOf c seen else min (carriedOf c seen + lostOf c seen) 255
    totalLost := if lostOf c seen = 0 then c.totalLost else min (c.totalLost + lostOf c seen) 65535 }

/-- The Notice Unit once a run of edges has been offered (R149). -/
def lossesNoted (seen : List (Fin 8)) (c : Capture) (n : NoticeUnit) : NoticeUnit :=
  if lostOf c seen = 0 then n else { n with flags := n.flags ||| 512 }

section
variable {record : Nat → Fin 8 → CaptureRecord} {c : Capture} {j : Fin 8} {seen : List (Fin 8)} {n : NoticeUnit}

theorem capturesOffered_nil : capturesOffered record [] c = c := by
  simp [capturesOffered, keptOf, lostOf, carriedOf]

theorem lossesNoted_nil : lossesNoted [] c n = n := by
  simp [lossesNoted, keptOf, lostOf]

/-- A queue with room takes an edge, with the count of the edges lost before it. -/
theorem capturesOffered_room (h : c.queue.length < 32) :
    capturesOffered record [j] c = { c with queue := c.queue ++ [record c.pendingLost j], pendingLost := 0 } := by
  obtain ⟨n, hn⟩ : ∃ n, 32 - c.queue.length = n + 1 := ⟨_, (Nat.sub_add_cancel (by omega)).symm⟩
  simp [capturesOffered, keptOf, lostOf, carriedOf, hn]

/-- A full queue drops an edge, which counts. -/
theorem capturesOffered_full (h : ¬ c.queue.length < 32) :
    capturesOffered record [j] c =
      { c with pendingLost := min (c.pendingLost + 1) 255, totalLost := min (c.totalLost + 1) 65535 } := by
  have hn : 32 - c.queue.length = 0 := by omega
  simp [capturesOffered, keptOf, lostOf, carriedOf, hn]

theorem lossesNoted_room (h : c.queue.length < 32) : lossesNoted [j] c n = n := by
  obtain ⟨m, hm⟩ : ∃ m, 32 - c.queue.length = m + 1 := ⟨_, (Nat.sub_add_cancel (by omega)).symm⟩
  simp [lossesNoted, keptOf, lostOf, hm]

theorem lossesNoted_full (h : ¬ c.queue.length < 32) : lossesNoted [j] c n = { n with flags := n.flags ||| 512 } := by
  have hm : 32 - c.queue.length = 0 := by omega
  simp [lossesNoted, keptOf, lostOf, hm]

/-- A run of edges is offered one edge after the other. -/
theorem capturesOffered_cons :
    capturesOffered record (j :: seen) c = capturesOffered record seen (capturesOffered record [j] c) := by
  by_cases h : c.queue.length < 32
  · rw [capturesOffered_room h]
    obtain ⟨m, hm⟩ : ∃ m, 32 - c.queue.length = m + 1 := ⟨_, (Nat.sub_add_cancel (by omega)).symm⟩
    have hm' : 32 - (c.queue.length + 1) = m := by omega
    cases hk : seen.take m with
    | nil => simp [capturesOffered, keptOf, lostOf, carriedOf, hm, hm', hk]
    | cons x l => simp [capturesOffered, keptOf, lostOf, carriedOf, hm, hm', hk]
  · rw [capturesOffered_full h]
    have hm : 32 - c.queue.length = 0 := by omega
    cases seen with
    | nil => simp [capturesOffered, keptOf, lostOf, carriedOf, hm]
    | cons x l =>
      simp only [capturesOffered, keptOf, lostOf, carriedOf, hm, List.take_zero, List.length_cons, List.length_nil]
      simp
      omega

theorem lossesNoted_cons :
    lossesNoted (j :: seen) c n = lossesNoted seen (capturesOffered record [j] c) (lossesNoted [j] c n) := by
  by_cases h : c.queue.length < 32
  · rw [capturesOffered_room h, lossesNoted_room h]
    have hm : 32 - c.queue.length = 32 - (c.queue.length + 1) + 1 := by omega
    simp [lossesNoted, keptOf, lostOf, hm]
  · rw [capturesOffered_full h, lossesNoted_full h]
    have hm : 32 - c.queue.length = 0 := by omega
    cases seen with
    | nil => simp [lossesNoted, keptOf, lostOf, hm]
    | cons x l => simp [lossesNoted, keptOf, lostOf, hm, BitVec.or_assoc]

theorem capturesOffered_append {l : List (Fin 8)} :
    capturesOffered record (l ++ seen) c = capturesOffered record seen (capturesOffered record l c) := by
  induction l generalizing c with
  | nil => rw [List.nil_append, capturesOffered_nil]
  | cons j l ih => rw [List.cons_append, capturesOffered_cons, ih, ← capturesOffered_cons]

theorem lossesNoted_append {l : List (Fin 8)} :
    lossesNoted (l ++ seen) c n = lossesNoted seen (capturesOffered record l c) (lossesNoted l c n) := by
  induction l generalizing c n with
  | nil => rw [List.nil_append, capturesOffered_nil, lossesNoted_nil]
  | cons j l ih =>
    rw [List.cons_append, lossesNoted_cons (record := record), ih, ← capturesOffered_cons, ← lossesNoted_cons]

/-- Two runs of edges, between which the references may have moved, leave what the one run leaves. -/
theorem offered_trans {s u t : State} {l : List (Fin 8)} {r r' : Vector (Option Level) 8} {m m' : Vector (Option Nat) 8}
    {p p' : Option Sample}
    (hu : u = (s.setCapt { capturesOffered record l s.capt with refs := r, sampled := m, lastSample := p }).setNotes
      (lossesNoted l s.capt s.notes))
    (ht : t = (u.setCapt { capturesOffered record seen u.capt with refs := r', sampled := m', lastSample := p' }).setNotes
      (lossesNoted seen u.capt u.notes)) :
    t = (s.setCapt { capturesOffered record (l ++ seen) s.capt with refs := r', sampled := m', lastSample := p' }).setNotes
      (lossesNoted (l ++ seen) s.capt s.notes) := by
  subst hu ht
  rw [capturesOffered_append, lossesNoted_append (record := record)]
  rfl

end

/-! ### What a sample leaves -/

/-- The inputs of a list whose edge the sample shows and the selection names. -/
def sampleSeen (s : State) (is : List (Fin 8)) : List (Fin 8) :=
  is.filter fun j => (shownEdge s j).any (selects s.capt.selections[j])

theorem sampleSeen_singleton {s : State} {i : Fin 8} {e : Edge} (h : shownEdge s i = some e) :
    sampleSeen s [i] = if selects s.capt.selections[i] e then [i] else [] := by
  unfold sampleSeen
  rw [List.filter_cons, h]
  rfl

/-- What the edges on the inputs of a list leave when they are taken one after the other. -/
structure SampleTaken (is : List (Fin 8)) (s t : State) : Prop where
  frame : t = (s.setCapt { capturesOffered (edgeRecord s) (sampleSeen s is) s.capt with
      refs := t.capt.refs
      sampled := t.capt.sampled
      lastSample := t.capt.lastSample }).setNotes (lossesNoted (sampleSeen s is) s.capt s.notes)
  taken : ∀ j ∈ is, sampleDue s j = true → t.capt.refs[j] = some s.capt.pins[j] ∧
    t.capt.sampled[j] = some (microsecond s) ∧ t.capt.lastSample = some (sampleNow s)
  kept : ∀ j, (j ∈ is → sampleDue s j = false) →
    t.capt.refs[j] = s.capt.refs[j] ∧ t.capt.sampled[j] = s.capt.sampled[j]
  last : (∀ j ∈ is, sampleDue s j = false) → t.capt.lastSample = s.capt.lastSample

theorem edgeOf_eq_some {ref : Option Level} {level : Level} {e : Edge} (h : edgeOf ref level = some e) :
    e = if level = .high then .rising else .falling := by
  cases ref with
  | none => simp [edgeOf] at h
  | some r =>
    simp only [edgeOf] at h
    split at h
    · cases h
    · exact (Option.some.inj h).symm

theorem shownEdge_eq_some {s : State} {i : Fin 8} {e : Edge} (h : shownEdge s i = some e) :
    e = if s.capt.pins[i] = .high then .rising else .falling := by
  unfold shownEdge at h
  split at h
  · exact edgeOf_eq_some h
  · cases h

theorem offerCapture_eq {s u : State} {i : Fin 8} {e : Edge} (he : e = if s.capt.pins[i] = .high then .rising else .falling)
    (htime : u.time = s.time) :
    offerCapture i e u = (u.setCapt (capturesOffered (edgeRecord s) [i] u.capt)).setNotes (lossesNoted [i] u.capt u.notes) := by
  unfold offerCapture
  by_cases h : u.capt.queue.length < 32
  · rw [capturesOffered_room h, lossesNoted_room h, he]
    refine (if_pos h).trans ?_
    rw [htime]
    rfl
  · rw [capturesOffered_full h, lossesNoted_full h]
    exact if_neg h

/-- One input is taken. -/
theorem sampleTaken_takeEdge (i : Fin 8) (s : State) : SampleTaken [i] s (takeEdge i s) := by
  unfold takeEdge
  split
  next e he =>
    have hdue : sampleDue s i = true := by simp [sampleDue, he]
    have hkept : ∀ j, (j ∈ [i] → sampleDue s j = false) → i.val ≠ j.val := fun j h heq => by
      rw [Fin.ext heq] at hdue
      simp [h (by simp [Fin.ext heq])] at hdue
    dsimp only
    split
    next hsel =>
      have hseen : sampleSeen s [i] = [i] := (sampleSeen_singleton he).trans (if_pos hsel)
      rw [offerCapture_eq (s := s) (u := setReference i s) (shownEdge_eq_some he) rfl]
      constructor
      · rw [hseen]
        rfl
      · intro j hj _
        obtain rfl := List.mem_singleton.mp hj
        exact ⟨Vector.getElem_set_self _, Vector.getElem_set_self _, rfl⟩
      · intro j hj
        exact ⟨Vector.getElem_set_ne i.isLt j.isLt (hkept j hj), Vector.getElem_set_ne i.isLt j.isLt (hkept j hj)⟩
      · intro h
        simp [h i (by simp)] at hdue
    next hsel =>
      have hseen : sampleSeen s [i] = [] := (sampleSeen_singleton he).trans (if_neg hsel)
      constructor
      · rw [hseen, capturesOffered_nil, lossesNoted_nil]
        rfl
      · intro j hj _
        obtain rfl := List.mem_singleton.mp hj
        exact ⟨Vector.getElem_set_self _, Vector.getElem_set_self _, rfl⟩
      · intro j hj
        exact ⟨Vector.getElem_set_ne i.isLt j.isLt (hkept j hj), Vector.getElem_set_ne i.isLt j.isLt (hkept j hj)⟩
      · intro h
        simp [h i (by simp)] at hdue
  next he =>
    have hdue : sampleDue s i = false := by simp [sampleDue, he]
    have hseen : sampleSeen s [i] = [] := by simp [sampleSeen, he]
    constructor
    · rw [hseen, capturesOffered_nil, lossesNoted_nil]
      rfl
    · intro j hj h
      obtain rfl := List.mem_singleton.mp hj
      simp [hdue] at h
    · exact fun _ _ => ⟨rfl, rfl⟩
    · exact fun _ => rfl

/-- Taking one input leaves what the sample shows on every other. -/
theorem SampleTaken.shownEdge_other {s u : State} {i j : Fin 8} (h : SampleTaken [i] s u) (hne : j ≠ i) :
    shownEdge u j = shownEdge s j := by
  have hkept := h.kept j fun hj => absurd (List.mem_singleton.mp hj) hne
  have hpins : u.capt.pins = s.capt.pins := by rw [h.frame]; rfl
  have hactive : captureActive u = captureActive s := by rw [h.frame]; rfl
  have hmicro : microsecond u = microsecond s := by rw [h.frame]; rfl
  have hnow : sampleNow u = sampleNow s := by rw [h.frame]; rfl
  have hunsampled : unsampled u j = unsampled s j := by simp only [unsampled, hkept.2, hmicro]
  have hopen : sampleOpen u = sampleOpen s := by
    cases hdue : sampleDue s i with
    | true =>
      have hlast := (h.taken i (List.mem_singleton_self i) hdue).2.2
      have hs : sampleOpen s = true := sampleOpen_iff.mpr (sampleDue_iff.mp hdue).2.2.2
      rw [hs]
      simp [sampleOpen, hlast, hnow]
    | false =>
      have hlast := h.last fun k hk => List.mem_singleton.mp hk ▸ hdue
      simp only [sampleOpen, hlast, hmicro, hnow]
  unfold shownEdge
  rw [hactive, hopen, hunsampled, hkept.1, hpins]

/-- Inputs are taken one after the other. -/
theorem SampleTaken.cons {s u t : State} {i : Fin 8} {is : List (Fin 8)} (hi : i ∉ is) (h : SampleTaken [i] s u)
    (ht : SampleTaken is u t) : SampleTaken (i :: is) s t := by
  have hother : ∀ j ∈ is, shownEdge u j = shownEdge s j := fun j hj =>
    h.shownEdge_other fun heq => hi (heq ▸ hj)
  have hdue : ∀ j ∈ is, sampleDue u j = sampleDue s j := fun j hj => by simp only [sampleDue, hother j hj]
  have hpins : u.capt.pins = s.capt.pins := by rw [h.frame]; rfl
  have hsel : u.capt.selections = s.capt.selections := by rw [h.frame]; rfl
  have hmicro : microsecond u = microsecond s := by rw [h.frame]; rfl
  have hnow : sampleNow u = sampleNow s := by rw [h.frame]; rfl
  have hrecord : edgeRecord u = edgeRecord s := by rw [h.frame]; rfl
  have hseen : sampleSeen u is = sampleSeen s is := List.filter_congr fun j hj => by rw [hother j hj, hsel]
  constructor
  · have hframe := ht.frame
    rw [hseen, hrecord] at hframe
    have happend : sampleSeen s (i :: is) = sampleSeen s [i] ++ sampleSeen s is := List.filter_append (l₁ := [i]) is
    rw [happend]
    exact offered_trans h.frame hframe
  · intro j hj hjdue
    rcases List.mem_cons.mp hj with rfl | hmem
    · obtain ⟨href, hsampled, hlast⟩ := h.taken j (List.mem_singleton_self j) hjdue
      obtain ⟨href', hsampled'⟩ := ht.kept j fun hj' => absurd hj' hi
      refine ⟨href'.trans href, hsampled'.trans hsampled, ?_⟩
      by_cases hrest : ∀ k ∈ is, sampleDue u k = false
      · exact (ht.last hrest).trans hlast
      · obtain ⟨k, hk, hkdue⟩ : ∃ k ∈ is, sampleDue u k = true := by simpa using hrest
        exact (ht.taken k hk hkdue).2.2.trans (by rw [hnow])
    · obtain ⟨href, hsampled, hlast⟩ := ht.taken j hmem ((hdue j hmem).trans hjdue)
      exact ⟨href.trans (by rw [hpins]), hsampled.trans (by rw [hmicro]), hlast.trans (by rw [hnow])⟩
  · intro j hj
    obtain ⟨href, hsampled⟩ := h.kept j fun hj' => hj (List.mem_singleton.mp hj' ▸ List.mem_cons_self)
    obtain ⟨href', hsampled'⟩ := ht.kept j fun hj' => (hdue j hj').trans (hj (List.mem_cons_of_mem _ hj'))
    exact ⟨href'.trans href, hsampled'.trans hsampled⟩
  · intro hj
    have hlast := h.last fun j hj' => hj j (List.mem_singleton.mp hj' ▸ List.mem_cons_self)
    have hlast' := ht.last fun j hj' => (hdue j hj').trans (hj j (List.mem_cons_of_mem _ hj'))
    exact hlast'.trans hlast

theorem sampleTaken_takeEdges {is : List (Fin 8)} (h : is.Nodup) (s : State) :
    SampleTaken is s (is.foldl (fun t i => takeEdge i t) s) := by
  induction is generalizing s with
  | nil =>
    exact ⟨by rw [sampleSeen, List.filter_nil, capturesOffered_nil, lossesNoted_nil]; rfl, nofun, fun _ _ => ⟨rfl, rfl⟩,
      fun _ => rfl⟩
  | cons i is ih =>
    obtain ⟨hi, his⟩ := List.nodup_cons.mp h
    exact (sampleTaken_takeEdge i s).cons hi (ih his _)

/-- A sample takes every input, in an order of its own (R147). -/
theorem sampleOrder_perm (s : State) : (sampleOrder s).Perm (List.finRange 8) := by
  unfold sampleOrder
  split
  · exact List.Perm.refl _
  · exact (List.perm_ext_iff_of_nodup ((List.nodup_finRange 8).map (Equiv.injective _)) (List.nodup_finRange 8)).mpr
      fun j => by simp [(Config.inputOrder s.clock.choices).surjective j]

/-- The selection names the edge that leads to a level (R144). -/
theorem selects_iff {sel : EdgeSelection} {level : Level} :
    selects sel (if level = .high then .rising else .falling) = true ↔
      sel = .both ∨ sel = .rising ∧ level = .high ∨ sel = .falling ∧ level = .low := by
  cases sel <;> cases level <;> decide

theorem mem_sampleSeen {s : State} {is : List (Fin 8)} {j : Fin 8} :
    j ∈ sampleSeen s is ↔ j ∈ is ∧ sampleDue s j = true ∧ (s.capt.selections[j] = .both ∨
      s.capt.selections[j] = .rising ∧ s.capt.pins[j] = .high ∨ s.capt.selections[j] = .falling ∧ s.capt.pins[j] = .low) := by
  rw [sampleSeen, List.mem_filter, sampleDue, ← selects_iff]
  cases he : shownEdge s j with
  | none => simp
  | some e =>
    rw [shownEdge_eq_some he]
    simp

/-- One input at most shows an edge when no two do. -/
theorem fewEdges_of_eq {s : State} (h : ∀ j k, sampleDue s j = true → sampleDue s k = true → j = k) : fewEdges s = true := by
  unfold fewEdges
  rw [decide_eq_true_iff, List.countP_eq_length_filter]
  have hnodup := (List.nodup_finRange 8).filter (sampleDue s)
  have hdue : ∀ j ∈ (List.finRange 8).filter (sampleDue s), sampleDue s j = true := fun j hj => (List.mem_filter.mp hj).2
  match (List.finRange 8).filter (sampleDue s), hnodup, hdue with
  | [], _, _ => exact Nat.zero_le 1
  | [_], _, _ => exact Nat.le_refl 1
  | j :: k :: l, hnodup, hdue =>
    exact absurd (h j k (hdue j (by simp)) (hdue k (by simp))) (List.pairwise_cons.mp hnodup |>.1 k (by simp))

/-- A sample with capture inactive shows nothing (R145). -/
theorem sampleInputs_config {s : State} (h : s.ctl.state = .config) : sampleInputs s = s := by
  have hdue : ∀ j, sampleDue s j = false := fun j => by simp [sampleDue, shownEdge_none (Or.inl h)]
  have hfew : fewEdges s = true := fewEdges_of_eq fun j _ hj => by simp [hdue j] at hj
  have htake : ∀ is : List (Fin 8), is.foldl (fun t i => takeEdge i t) s = s := fun is => by
    induction is with
    | nil => rfl
    | cons i is ih => rw [List.foldl_cons, takeEdge, shownEdge_none (Or.inl h)]; exact ih
  unfold sampleInputs
  rw [if_pos hfew, htake]

/-- The state in which a sample's edges are taken differs in the count of free choices alone. -/
def sampleChoice (s : State) : State := if fewEdges s then s else countChoice s

theorem sampleChoice_eq (s : State) :
    sampleChoice s = s.setClock { s.clock with choices := (sampleChoice s).clock.choices } := by
  unfold sampleChoice
  split <;> rfl

theorem shownEdge_sampleChoice (s : State) (j : Fin 8) : shownEdge (sampleChoice s) j = shownEdge s j := by
  rw [sampleChoice_eq]
  rfl

/-- A sample of all inputs. -/
theorem sampleInputs_taken (s : State) : SampleTaken (sampleOrder s) (sampleChoice s) (sampleInputs s) :=
  sampleTaken_takeEdges ((sampleOrder_perm s).nodup_iff.mpr (List.nodup_finRange 8)) _

theorem sampleDue_setPin {s : State} {i j : Fin 8} {level : Level} (h : s.ctl.state ≠ .config) :
    sampleDue (setPin i level s) j = true ↔
      (∃ before, s.capt.refs[j] = some before ∧ before ≠ (s.capt.pins.set i.val level)[j]) ∧
        s.capt.sampled[j] ≠ some (s.clock.osc / 2) ∧ sampleStands s :=
  sampleDue_iff.trans ⟨fun hdue => hdue.2, fun hdue => ⟨h, hdue⟩⟩

/-- Settles O53: every input is taken in turn, and the edges seen are one run offered to the queue. -/
theorem captureEdgesAreStampedOrCounted : Obligations.CaptureEdgesAreStampedOrCounted := by
  intro s i level pins
  refine ⟨fun hst => congrArg Host.Outcome.next (sampleInputs_config hst), fun hst => ?_⟩
  intro shown selected record
  have htaken := sampleInputs_taken (setPin i level s)
  have hdue : ∀ j, sampleDue (sampleChoice (setPin i level s)) j = true ↔ shown j := fun j => by
    rw [sampleDue, shownEdge_sampleChoice]
    exact sampleDue_setPin hst
  have hall : ∀ j, j ∈ sampleOrder (setPin i level s) := fun j => (sampleOrder_perm _).mem_iff.mpr (List.mem_finRange j)
  have hnodup := (sampleOrder_perm (setPin i level s)).nodup_iff.mpr (List.nodup_finRange 8)
  have hchoice := sampleChoice_eq (setPin i level s)
  have hfew : (∀ j k, shown j → shown k → j = k) → (sampleChoice (setPin i level s)).clock = s.clock := fun h => by
    have hfew := fewEdges_of_eq (s := setPin i level s) fun j k hj hk =>
      h j k ((sampleDue_setPin hst).mp hj) ((sampleDue_setPin hst).mp hk)
    simp only [sampleChoice, hfew, if_true]
    rfl
  generalize sampleOrder (setPin i level s) = order at *
  generalize sampleChoice (setPin i level s) = u at *
  generalize ht : sampleInputs (setPin i level s) = t at *
  have hclock : t.clock = u.clock := by rw [htaken.frame]; rfl
  have hcapt : u.capt = { s.capt with pins := pins } := by rw [hchoice]; rfl
  have hnone : ∀ j, ¬ shown j → sampleDue u j = false := fun j hj => Bool.eq_false_iff.mpr (mt (hdue j).mp hj)
  refine ⟨t, sampleSeen u order, congrArg Host.Outcome.next ht, hnodup.filter _, fun j => ?_, ?_,
    fun j => ⟨fun hj => ?_, fun hj => ?_⟩, fun h => ?_, fun h => hclock.trans (hfew h)⟩
  · rw [mem_sampleSeen, hdue j, hcapt]
    exact ⟨fun h => h.2, fun h => ⟨hall j, h⟩⟩
  · rw [hclock]
    refine htaken.frame.trans ?_
    generalize sampleSeen u order = seen
    obtain ⟨choices, rfl⟩ : ∃ n, u = (setPin i level s).setClock { s.clock with choices := n } := ⟨_, hchoice⟩
    rfl
  · obtain ⟨href, hsampled, hlast⟩ := htaken.taken j (hall j) ((hdue j).mpr hj)
    rw [hchoice] at hsampled hlast
    exact ⟨href.trans (by rw [hcapt]), hsampled, hlast⟩
  · obtain ⟨href, hsampled⟩ := htaken.kept j fun _ => hnone j hj
    rw [hcapt] at href hsampled
    exact ⟨href, hsampled⟩
  · exact (htaken.last fun j _ => hnone j (h j)).trans (by rw [hcapt])

end Sys2Proof.Machine


/-! PROOFS. Chapter 8: the characters of frames and of transactions, read back. -/

namespace Sys2Proof.Machine

/-! ### What stands at a position (R134, R135) -/

theorem charAt_of_drop {bs rest : List Byte} {off : Nat} {b : Byte} (h : bs.drop off = b :: rest) : charAt bs off = b := by
  rw [charAt, List.getD_eq_getElem?_getD, ← Nat.add_zero off, ← List.getElem?_drop, h]
  rfl

theorem drop_add_of_drop {α : Type} {l front rest : List α} {off n : Nat} (h : l.drop off = front ++ rest) (hn : front.length = n) :
    l.drop (off + n) = rest := by
  rw [← List.drop_drop, h, ← hn, List.drop_left]

/-- An item is what its fourteen characters hold. -/
theorem itemAt_eq_take (bs : List Byte) (off : Nat) : itemAt bs off = itemAt (0 :: (bs.drop off).take 14) 1 := by
  have hchar : ∀ k < 14, charAt (0 :: (bs.drop off).take 14) (1 + k) = charAt bs (off + k) := fun k hk => by
    rw [Nat.add_comm, charAt_cons_succ, charAt, charAt, List.getD_eq_getElem?_getD, List.getElem?_take_of_lt hk,
      List.getElem?_drop, List.getD_eq_getElem?_getD]
  have hfield : ∀ k n, k + n ≤ 14 → fieldAt (0 :: (bs.drop off).take 14) (1 + k) n = fieldAt bs (off + k) n := fun k n hk => by
    rw [fieldAt, fieldAt, Nat.add_comm, List.drop_succ_cons, List.drop_take, List.take_take, List.drop_drop,
      Nat.min_eq_left (by omega)]
  unfold itemAt programAt
  have h0 := hchar 0 (by decide)
  have h1 := hchar 1 (by decide)
  have f2 := hfield 2 4 (by decide)
  have f6 := hfield 6 3 (by decide)
  have f9 := hfield 9 3 (by decide)
  have f12 := hfield 12 2 (by decide)
  simp only [Nat.add_zero] at h0
  simp only [Nat.add_assoc, h0, h1, Nat.reduceAdd] at f2 f6 f9 f12 ⊢
  simp only [f2, f6, f9, f12]

theorem length_itemBytes (it : Item) : (itemBytes it).length = 14 := by
  simp [itemBytes, programBytes]

theorem itemAt_of_drop {bs rest : List Byte} {off : Nat} {it : Item} (h : bs.drop off = itemBytes it ++ rest) :
    itemAt bs off = it := by
  rw [itemAt_eq_take, h, List.take_left' (length_itemBytes it), itemAt_itemBytes]

theorem itemsAt_of_drop {bs rest : List Byte} {off : Nat} {items : List Item}
    (h : bs.drop off = items.flatMap itemBytes ++ rest) : itemsAt bs off items.length = items := by
  induction items generalizing off with
  | nil => rfl
  | cons it items ih =>
    rw [List.flatMap_cons, List.append_assoc] at h
    rw [List.length_cons, itemsAt, itemAt_of_drop h, ih (drop_add_of_drop h (length_itemBytes it))]

theorem stationOf?_val (st : Station) : stationOf? st.val = some st := dif_pos st.isLt

theorem toNat_stationChar (st : Station) : (BitVec.ofNat 8 st.val).toNat = st.val := by
  rw [BitVec.toNat_ofNat]
  exact Nat.mod_eq_of_lt (by omega)

/-- The two characters of an entry of a CALL's list. -/
def entryBytes (e : CallEntry) : List Byte := [BitVec.ofNat 8 e.station.val, e.count]

theorem callEntriesAt?_of_drop {bs rest : List Byte} {off : Nat} {list : List CallEntry}
    (h : bs.drop off = list.flatMap entryBytes ++ rest) : callEntriesAt? bs off list.length = some list := by
  induction list generalizing off with
  | nil => rfl
  | cons e list ih =>
    rw [List.flatMap_cons, List.append_assoc] at h
    have hstation : charAt bs off = BitVec.ofNat 8 e.station.val := charAt_of_drop h
    have hcount : charAt bs (off + 1) = e.count := charAt_of_drop (drop_add_of_drop (n := 1) (front := [_]) h rfl)
    rw [List.length_cons, callEntriesAt?, ih (drop_add_of_drop (n := 2) h rfl), hstation, hcount, toNat_stationChar, stationOf?_val]

theorem setIdAt?_of_drop {bs rest : List Byte} {off : Nat} {set : SetId} (h : bs.drop off = setIdBytes set ++ rest) :
    setIdAt? bs off = some set := by
  have hproposer : charAt bs off = BitVec.ofNat 8 set.proposer.val := charAt_of_drop h
  have hseq : charAt bs (off + 1) = set.seq := charAt_of_drop (drop_add_of_drop (n := 1) (front := [_]) h rfl)
  rw [setIdAt?, hproposer, hseq, toNat_stationChar, stationOf?_val]
  rfl

/-! ### Codes read back (section 8.2) -/

theorem lockStateOf?_code (lock : LockState) : lockStateOf? (BitVec.ofNat 8 lock.code).toNat = some lock := by
  cases lock <;> rfl

theorem verdictOf?_code (verdict : Verdict) : verdictOf? (BitVec.ofNat 8 verdict.code).toNat = some verdict := by
  cases verdict with
  | ready => rfl
  | refused reason => cases reason <;> rfl

theorem abortReasonOf?_code (reason : AbortReason) : abortReasonOf? (BitVec.ofNat 8 reason.code).toNat = some reason := by
  cases reason <;> rfl

theorem outcomeOf?_code (outcome : DecisionOutcome) : outcomeOf? (BitVec.ofNat 8 outcome.code).toNat = some outcome := by
  cases outcome <;> rfl

theorem frameKindOf?_code (kind : FrameKind) : frameKindOf? (BitVec.ofNat 8 kind.code).toNat = some kind := by
  cases kind <;> rfl

/-! ### Bodies read back (R137) -/

theorem netTime_read (time : NetTime) {bs rest : List Byte} {off : Nat} (h : bs.drop off = beBytes 6 time.toNat ++ rest) :
    BitVec.ofNat 48 (fieldAt bs off 6) = time := by
  rw [fieldAt_of_drop h time.isLt, BitVec.ofNat_toNat, BitVec.setWidth_eq]

theorem length_entries (list : List CallEntry) : (list.flatMap entryBytes).length = 2 * list.length := by
  rw [List.length_flatMap, Nat.mul_comm]
  simp [entryBytes]

theorem length_items (items : List Item) : (items.flatMap itemBytes).length = 14 * items.length := by
  rw [List.length_flatMap, Nat.mul_comm]
  simp [length_itemBytes]

/-- A body's characters are of its kind's length. -/
theorem length_bodyBytes (body : Body) : (bodyBytes body).length = match body with
    | .sync _ => 6
    | .call _ _ list => 9 + 2 * list.length
    | .commit _ => 2
    | .abort _ _ => 3
    | .reply _ _ _ => 4
    | .decision _ _ => 3
    | .stage _ items => 3 + 14 * items.length
    | .inquire _ => 2
    | .missed _ => 2
    | .presence _ _ _ _ => 4 := by
  cases body with
  | sync time => exact length_beBytes 6 _
  | call set epoch list =>
    change (setIdBytes set ++ beBytes 6 epoch.toNat ++ [BitVec.ofNat 8 list.length] ++ list.flatMap entryBytes).length = _
    rw [List.length_append, List.length_append, List.length_append, length_entries, length_beBytes]
    rfl
  | stage set items =>
    change (setIdBytes set ++ [BitVec.ofNat 8 items.length] ++ items.flatMap itemBytes).length = _
    rw [List.length_append, List.length_append, length_items]
    rfl
  | commit | abort | reply | decision | inquire | missed | presence => rfl

theorem callList_of_formed {src : Station} {set : SetId} {epoch : NetTime} {list : List CallEntry}
    (h : (Body.call set epoch list).formed src = true) : list.length ≤ 8 := by
  simp only [Body.formed, callListFormed, Bool.and_eq_true, decide_eq_true_eq] at h
  exact h.2.1.1.2

theorem stageItems_of_formed {src : Station} {set : SetId} {items : List Item}
    (h : (Body.stage set items).formed src = true) : items.length ≤ 4 := by
  simp only [Body.formed, Bool.and_eq_true, decide_eq_true_eq] at h
  exact h.2

/-- The characters of a well-formed body fit a frame (R136). -/
theorem bodyBytes_fit {src : Station} {body : Body} (h : body.formed src = true) : (bodyBytes body).length ≤ 64 := by
  rw [length_bodyBytes]
  cases body with
  | call set epoch list =>
    have := callList_of_formed h
    dsimp only
    omega
  | stage set items =>
    have := stageItems_of_formed h
    dsimp only
    omega
  | sync | commit | abort | reply | decision | inquire | missed | presence => exact Nat.le_of_ble_eq_true rfl

theorem toNat_countChar {n : Nat} (h : n ≤ 255) : (BitVec.ofNat 8 n).toNat = n := by
  rw [BitVec.toNat_ofNat]
  exact Nat.mod_eq_of_lt (by omega)

theorem bodyOf?_bodyBytes {src : Station} {body : Body} (h : body.formed src = true) :
    bodyOf? body.kind (bodyBytes body) = some body := by
  have hlength := length_bodyBytes body
  cases body with
  | sync time =>
    refine (if_pos (e := none) hlength).trans ?_
    rw [netTime_read time (rest := []) (List.append_nil _).symm]
  | call set epoch list =>
    have hset : setIdAt? (bodyBytes (.call set epoch list)) 0 = some set := setIdAt?_of_drop (rest := _) rfl
    have hepoch : BitVec.ofNat 48 (fieldAt (bodyBytes (.call set epoch list)) 2 6) = epoch :=
      netTime_read epoch (rest := [BitVec.ofNat 8 list.length] ++ list.flatMap entryBytes) rfl
    have hcount : (charAt (bodyBytes (.call set epoch list)) 8).toNat = list.length :=
      toNat_countChar (Nat.le_trans (callList_of_formed h) (by decide))
    have hentries : callEntriesAt? (bodyBytes (.call set epoch list)) 9 list.length = some list :=
      callEntriesAt?_of_drop (rest := []) (List.append_nil _).symm
    have hfits : 9 ≤ (bodyBytes (.call set epoch list)).length ∧ (bodyBytes (.call set epoch list)).length =
        9 + 2 * (charAt (bodyBytes (.call set epoch list)) 8).toNat := by
      rw [hcount, hlength]
      exact ⟨Nat.le_add_right _ _, rfl⟩
    refine (if_pos (e := none) hfits).trans ?_
    rw [hcount, hset, hentries, hepoch]
  | stage set items =>
    have hset : setIdAt? (bodyBytes (.stage set items)) 0 = some set := setIdAt?_of_drop (rest := _) rfl
    have hcount : (charAt (bodyBytes (.stage set items)) 2).toNat = items.length :=
      toNat_countChar (Nat.le_trans (stageItems_of_formed h) (by decide))
    have hitems : itemsAt (bodyBytes (.stage set items)) 3 items.length = items :=
      itemsAt_of_drop (rest := []) (List.append_nil _).symm
    have hfits : 3 ≤ (bodyBytes (.stage set items)).length ∧ (bodyBytes (.stage set items)).length =
        3 + 14 * (charAt (bodyBytes (.stage set items)) 2).toNat := by
      rw [hcount, hlength]
      exact ⟨Nat.le_add_right _ _, rfl⟩
    refine (if_pos (e := none) hfits).trans ?_
    rw [hcount, hset, hitems]
    rfl
  | commit set =>
    have hset : setIdAt? (bodyBytes (.commit set)) 0 = some set := setIdAt?_of_drop (rest := []) rfl
    exact (if_pos (e := none) hlength).trans (by rw [hset])
  | abort set reason =>
    have hset : setIdAt? (bodyBytes (.abort set reason)) 0 = some set := setIdAt?_of_drop (rest := _) rfl
    have hcode : abortReasonOf? (charAt (bodyBytes (.abort set reason)) 2).toNat = some reason := abortReasonOf?_code reason
    exact (if_pos (e := none) hlength).trans (by rw [hset, hcode])
  | reply set verdict slots =>
    have hset : setIdAt? (bodyBytes (.reply set verdict slots)) 0 = some set := setIdAt?_of_drop (rest := _) rfl
    have hcode : verdictOf? (charAt (bodyBytes (.reply set verdict slots)) 2).toNat = some verdict := verdictOf?_code verdict
    exact (if_pos (e := none) hlength).trans (by rw [hset, hcode]; rfl)
  | decision set outcome =>
    have hset : setIdAt? (bodyBytes (.decision set outcome)) 0 = some set := setIdAt?_of_drop (rest := _) rfl
    have hcode : outcomeOf? (charAt (bodyBytes (.decision set outcome)) 2).toNat = some outcome := outcomeOf?_code outcome
    exact (if_pos (e := none) hlength).trans (by rw [hset, hcode])
  | inquire set =>
    have hset : setIdAt? (bodyBytes (.inquire set)) 0 = some set := setIdAt?_of_drop (rest := []) rfl
    exact (if_pos (e := none) hlength).trans (by rw [hset])
  | missed set =>
    have hset : setIdAt? (bodyBytes (.missed set)) 0 = some set := setIdAt?_of_drop (rest := []) rfl
    exact (if_pos (e := none) hlength).trans (by rw [hset])
  | presence lock records slots join =>
    have hlock : lockStateOf? (charAt (bodyBytes (.presence lock records slots join)) 0).toNat = some lock :=
      lockStateOf?_code lock
    have hjoin : (charAt (bodyBytes (.presence lock records slots join)) 3).toNat ≤ 1 ∧
        (charAt (bodyBytes (.presence lock records slots join)) 3 == 1) = join := by
      change (BitVec.ofNat 8 join.toNat).toNat ≤ 1 ∧ (BitVec.ofNat 8 join.toNat == 1) = join
      cases join <;> decide
    obtain ⟨hbit, hjoin⟩ := hjoin
    refine (if_pos (e := none) ⟨hlength, hbit⟩).trans ?_
    rw [hlock, hjoin]
    rfl

/-! ### Frames read back (R125 to R128, R132) -/

theorem frameClass_le (kind : FrameKind) : kind.frameClass ≤ 3 := by
  cases kind <;> decide

theorem toNat_arbitrationChar (f : Frame) : (BitVec.ofNat 8 f.arbitration).toNat = f.body.kind.frameClass * 32 + f.src.val := by
  have hclass := frameClass_le f.body.kind
  have hsrc := f.src.isLt
  exact toNat_countChar (by rw [Frame.arbitration]; omega)

/-- The destination character of a frame (R132). -/
def destChar (dest : Option Station) : Byte :=
  match dest with
  | some d => BitVec.ofNat 8 d.val
  | none => 255

theorem destOf?_destChar (dest : Option Station) : destOf? (destChar dest).toNat = some dest := by
  cases dest with
  | none => rfl
  | some d =>
    rw [destChar, toNat_stationChar, destOf?, if_neg (by omega), stationOf?_val]
    rfl

theorem formed_body {f : Frame} (h : f.formed = true) : f.body.formed f.src = true := by
  simp only [Frame.formed, Bool.and_eq_true] at h
  exact h.2

theorem frameOf?_encoded {f : Frame} (h : f.formed = true) :
    frameOf? f.body.kind (BitVec.ofNat 8 f.arbitration).toNat (destChar f.dest).toNat (bodyBytes f.body) = some f := by
  have hsrc := f.src.isLt
  have hdiv : (f.body.kind.frameClass * 32 + f.src.val) / 32 = f.body.kind.frameClass := by omega
  have hmod : (f.body.kind.frameClass * 32 + f.src.val) % 32 = f.src.val := by omega
  rw [toNat_arbitrationChar, frameOf?, hdiv, hmod, if_pos ⟨rfl, bodyBytes_fit (formed_body h)⟩, stationOf?_val,
    destOf?_destChar, bodyOf?_bodyBytes (formed_body h)]
  exact if_pos h

theorem classifyFrame_encodeFrame (own : Station) {f : Frame} (h : f.formed = true) :
    classifyFrame own ((encodeFrame f).map fun b => { value := b, stop := true }) =
      if f.src = own then .ownNumberFrame f.body.kind else f.command := by
  have hfit := bodyBytes_fit (formed_body h)
  have hvalues : ((encodeFrame f).map fun b => ({ value := b, stop := true } : RxChar)).map (·.value) = encodeFrame f := by
    rw [List.map_map]
    exact List.map_id _
  have hstops : ((encodeFrame f).map fun b => ({ value := b, stop := true } : RxChar)).any (fun c => !c.stop) = false := by
    simp
  have hcount : (charAt (encodeFrame f) 3).toNat = (bodyBytes f.body).length := toNat_countChar (by omega)
  have hfront : (headerBytes f ++ bodyBytes f.body).length = 4 + (bodyBytes f.body).length := by
    rw [List.length_append]
    rfl
  have htake : (encodeFrame f).take (4 + (bodyBytes f.body).length) = headerBytes f ++ bodyBytes f.body :=
    List.take_left' hfront
  have hcrc : fieldAt (encodeFrame f) (4 + (bodyBytes f.body).length) 2 = (crcOf (headerBytes f ++ bodyBytes f.body)).toNat :=
    fieldAt_of_drop (rest := []) ((List.drop_left' hfront).trans (List.append_nil _).symm) (BitVec.isLt _)
  have hkind : frameKindOf? (charAt (encodeFrame f) 1).toNat = some f.body.kind := frameKindOf?_code f.body.kind
  have hframe : frameOf? f.body.kind (charAt (encodeFrame f) 0).toNat (charAt (encodeFrame f) 2).toNat
      ((headerBytes f ++ bodyBytes f.body).drop 4) = some f := frameOf?_encoded h
  have hlength : ¬ (encodeFrame f).length < 6 + (bodyBytes f.body).length := by rw [length_encodeFrame]; omega
  simp only [classifyFrame, hvalues, hstops, hcount, htake, hcrc, hkind, hframe, hlength, Bool.false_eq_true, if_false, ne_eq,
    not_true_eq_false]

/-! ### The CRC (R133) -/

/-- The bits of a two-character number, most significant first. -/
theorem flatMap_byteBits_word (r : BitVec 16) :
    (beBytes 2 r.toNat).flatMap byteBits = (List.range 16).map fun k => r.getLsbD (15 - k) := by
  have hlow : ∀ i < 8, (BitVec.ofNat 8 r.toNat).getLsbD i = r.getLsbD i := fun i hi => by
    rw [BitVec.getLsbD_ofNat, decide_eq_true hi, Bool.true_and]
    rfl
  have hhigh : ∀ i < 8, (BitVec.ofNat 8 (r.toNat / 256)).getLsbD i = r.getLsbD (i + 8) := fun i hi => by
    rw [BitVec.getLsbD_ofNat, decide_eq_true hi, Bool.true_and, show 256 = 2 ^ 8 from rfl, Nat.testBit_div_two_pow]
    rfl
  have hbytes : beBytes 2 r.toNat = [BitVec.ofNat 8 (r.toNat / 256), BitVec.ofNat 8 r.toNat] := by simp [beBytes]
  rw [hbytes]
  change byteBits _ ++ (byteBits _ ++ []) = _
  simp only [byteBits, hlow, hhigh, Nat.reduceLT]
  rfl

/-- A register fed with its own bits is shifted out. -/
theorem crc_own_bits (r : BitVec 16) (n : Nat) (hn : n ≤ 16) :
    ((List.range n).map fun k => r.getLsbD (15 - k)).foldl crcBit r = r <<< n := by
  induction n with
  | zero => simp
  | succ n ih =>
    have hmsb : (r <<< n).msb = r.getLsbD (15 - n) := by
      rw [BitVec.msb_eq_getLsbD_last, BitVec.getLsbD_shiftLeft]
      simp
      omega
    rw [List.range_succ, List.map_append, List.foldl_append, ih (by omega), List.map_singleton, List.foldl_cons,
      List.foldl_nil, crcBit, hmsb]
    simp [BitVec.shiftLeft_add]

/-- Characters with their CRC behind them leave the CRC at 0 (R125). -/
theorem crcOf_residue (bs : List Byte) : crcOf (bs ++ beBytes 2 (crcOf bs).toNat) = 0 := by
  have happend : crcOf (bs ++ beBytes 2 (crcOf bs).toNat) =
      ((beBytes 2 (crcOf bs).toNat).flatMap byteBits).foldl crcBit (crcOf bs) := by
    rw [crcOf, List.flatMap_append, List.foldl_append]
    rfl
  rw [happend, flatMap_byteBits_word, crc_own_bits _ 16 (Nat.le_refl 16), BitVec.shiftLeft_eq_zero (Nat.le_refl 16)]
  rfl

theorem crcBit_eq (r : BitVec 16) (b : Bool) : crcBit r b = if r.getLsbD 15 = b then r <<< 1 else (r <<< 1) ^^^ 4129 := by
  have hmsb : r.msb = r.getLsbD 15 := BitVec.msb_eq_getLsbD_last r
  rw [crcBit, hmsb]
  by_cases h : r.getLsbD 15 = b <;> simp only [bne_iff_ne, ne_eq, h, not_true_eq_false, not_false_eq_true, if_true, if_false]

theorem byteBits_eq (b : Byte) : byteBits b = (List.range 8).map fun k => b.getLsbD (7 - k) := rfl

/-- One character more goes through the register bit by bit (R133). -/
theorem crcOf_append_singleton (bs : List Byte) (b : Byte) : crcOf (bs ++ [b]) = (List.range 8).foldl
    (fun (r : BitVec 16) k => if r.getLsbD 15 = b.getLsbD (7 - k) then r <<< 1 else (r <<< 1) ^^^ 4129) (crcOf bs) := by
  rw [crcOf, List.flatMap_append, List.foldl_append, List.flatMap_singleton, byteBits_eq, List.foldl_map]
  simp only [crcBit_eq]
  rfl

/-! ### Transactions (R139, R167) -/

theorem byteOfBits_byteBits (b : Byte) : byteOfBits (byteBits b) = b := by
  have hbit : ∀ i, (b.getLsbD i).toNat = b.toNat / 2 ^ i % 2 := fun i => Nat.toNat_testBit _ _
  have hstep : ∀ i, b.toNat / 2 ^ (i + 1) * 2 + b.toNat / 2 ^ i % 2 = b.toNat / 2 ^ i := fun i => by
    rw [Nat.pow_succ, ← Nat.div_div_eq_div_mul, Nat.mul_comm, Nat.div_add_mod]
  have htop : b.toNat / 2 ^ (7 + 1) = 0 := Nat.div_eq_of_lt b.isLt
  rw [byteOfBits, ← htop]
  simp only [byteBits, List.foldl_cons, List.foldl_nil, hbit]
  rw [hstep 7, hstep 6, hstep 5, hstep 4, hstep 3, hstep 2, hstep 1, hstep 0, Nat.pow_zero, Nat.div_one,
    BitVec.ofNat_toNat, BitVec.setWidth_eq]

theorem wholeChars_short {rest : List Bool} (h : rest.length < 8) : wholeChars rest = [] := by
  unfold wholeChars
  split
  next => simp only [List.length_cons] at h; omega
  next => rfl

theorem wholeChars_byteBits (bs : List Byte) {rest : List Bool} (h : rest.length < 8) :
    wholeChars (bs.flatMap byteBits ++ rest) = bs := by
  induction bs with
  | nil => exact wholeChars_short h
  | cons b bs ih =>
    change byteOfBits (byteBits b) :: wholeChars (bs.flatMap byteBits ++ rest) = _
    rw [byteOfBits_byteBits, ih]

theorem transactionOf_command (code : Byte) (args : List Byte) {rest : List Bool} (h : rest.length < 8) :
    transactionOf ((code :: args).flatMap byteBits ++ rest) = commandOf code args := by
  rw [transactionOf, wholeChars_byteBits _ h]

theorem commandBytes_commandOf (code : Byte) (args : List Byte) : commandBytes (commandOf code args) = some (code :: args) := by
  unfold commandOf
  split
  on_goal 20 => rfl
  all_goals
    next hcode => exact congrArg (fun c => some (c :: args)) (BitVec.eq_of_toNat_eq hcode).symm

/-! ### The tables -/

theorem beBytes_eq (n v : Nat) : beBytes n v = (List.range n).map fun k => BitVec.ofNat 8 (v / 256 ^ (n - 1 - k)) := by
  induction n with
  | zero => rfl
  | succ n ih =>
    rw [beBytes, ih, List.range_succ_eq_map, List.map_cons, List.map_map]
    congr 1
    refine List.map_congr_left fun k hk => ?_
    have hk := List.mem_range.mp hk
    simp only [Function.comp_apply]
    congr 3
    omega

theorem codes_of_chapter8 : codesOfChapter8 := by
  refine ⟨rfl, rfl, rfl, ⟨rfl, fun _ => rfl⟩, rfl, rfl, rfl, rfl, rfl, rfl, rfl, rfl, rfl, rfl, rfl, rfl, rfl,
    fun _ => ⟨rfl, rfl⟩, rfl, fun _ => rfl, fun _ => rfl⟩

theorem layouts_of_chapter8 : layoutsOfChapter8 := by
  unfold layoutsOfChapter8
  intro char setId
  refine ⟨beBytes_eq, byteBits_eq, fun p => ?program, fun it => ?item, fun body => ?body, fun f => ?arbitration, fun f => ?frame,
    rfl, crcOf_append_singleton⟩
  case program => rw [programBytes, Nat.mul_comm p.mode.code, Nat.mul_comm p.active.code, Nat.mul_comm p.rest.code]; rfl
  case item => cases it with | mk load channel program => cases load <;> rfl
  case body =>
    cases body with
    | presence lock records slots join => cases join <;> rfl
    | call set epoch list => rfl
    | stage set items => rfl
    | sync | commit | abort | reply | decision | inquire | missed => rfl
  case arbitration => exact congrArg (· + f.src.val) (Nat.mul_comm _ _)
  case frame =>
    intro front
    obtain ⟨src, dest, body⟩ := f
    cases dest <;> rfl

theorem form_of_chapter8 : formOfChapter8 := by
  intro f
  obtain ⟨src, dest, body⟩ := f
  have hdest : (dest.isNone == body.kind.broadcast) = true ↔
      (dest = none ↔ body.kind ∈ [FrameKind.sync, .call, .commit, .abort, .presence]) := by
    cases dest <;> cases body <;> simp [Body.kind, FrameKind.broadcast]
  rw [Frame.formed, Bool.and_eq_true, hdest]
  refine and_congr_right fun _ => ?_
  cases body with
  | call set epoch list => simp [Body.formed, SetId.formed, callListFormed, and_assoc]
  | sync | commit | abort | reply | decision | inquire | missed | stage | presence => simp [Body.formed, SetId.formed, and_assoc]

theorem commands_of_chapter8 : commandsOfChapter8 :=
  ⟨fun _ _ _ => ⟨fun _ => rfl, fun _ _ => rfl, rfl, fun _ => rfl, fun _ _ => rfl, fun _ => rfl, fun _ => rfl, rfl, rfl,
    fun _ _ _ _ => rfl⟩, fun _ => rfl⟩

/-- Settles O55: the tables, then frames, the CRC and transactions read back. -/
theorem framesAndCommandsReadBack : Obligations.FramesAndCommandsReadBack :=
  ⟨codes_of_chapter8, layouts_of_chapter8, form_of_chapter8, commands_of_chapter8, fun own _ h => classifyFrame_encodeFrame own h,
    crcOf_residue, fun code args _ h => ⟨transactionOf_command code args h, commandBytes_commandOf code args⟩⟩

end Sys2Proof.Machine


/-! PROOFS. The records and the swaps that network time has passed at a step (R10 to R16, R42, R43, R45, R48, R85). -/

namespace Sys2Proof.Machine

/-- What is pending stays pending when a notice is raised (R174). -/
theorem isPending_of_raised {n m : Notice} (hm : m ≠ .capture) {s t : State} (hnotes : t.notes = (raise m s).notes)
    (hcapt : t.capt = s.capt) (hn : isPending n s = true) : isPending n t = true := by
  by_cases h : n = m
  · subst h
    exact isPending_raised hm hnotes hcapt
  · exact (raisesOnly_raise hnotes hcapt n (by simp [h])).trans hn

/-! ### One record at its epoch -/

theorem undecided_of_state {r : SetRecord} (hst : r.state ≠ .staging) (harmed : r.state ≠ .armed) : undecided r := by
  cases h : r.state with
  | staging => exact absurd h hst
  | voted => exact .inl h
  | inDoubt => exact .inr h
  | armed => exact absurd h harmed

/-- The record at a position that has met its epoch is due at its own event. -/
theorem due_of_met {s : State} {i : Fin 4} {r : SetRecord} (hi : s.part.table[i] = some r) :
    (applyDue s i = true ↔ r.state = .armed ∧ recordMet s.time.now r) ∧
      (expiryDue s i = true ↔ (undecided r ∧ r.self = false) ∧ recordMet s.time.now r) ∧
      (selfExpiryDue s i = true ↔ (undecided r ∧ r.self = true) ∧ recordMet s.time.now r) := by
  have hund (h : undecided r) : r.state ≠ .staging := undecided_ne_staging h
  have hepoch {which : SetRecord → Prop} (hw : which r → r.state ≠ .staging) :
      atEpoch s i which ↔ which r ∧ recordMet s.time.now r := by
    constructor
    · rintro ⟨q, e, hq, he, hwq, hle⟩
      obtain rfl := Option.some.inj (hi.symm.trans hq)
      exact ⟨hwq, hw hwq, e, he, hle⟩
    · rintro ⟨hwr, -, e, he, hle⟩
      exact ⟨r, e, hi, he, hwr, hle⟩
  exact ⟨applyDue_iff.trans (hepoch fun h => by rw [h]; decide), expiryDue_iff.trans (hepoch fun h => hund h.1),
    selfExpiryDue_iff.trans (hepoch fun h => hund h.1)⟩

theorem meetRecord_stays {s : State} {i : Fin 4} (h : ∀ r, s.part.table[i] = some r → ¬ recordMet s.time.now r) :
    meetRecord i s = s := by
  have hno (which : SetRecord → Bool) (hw : holdsRecord which s i = true) : ∃ r, s.part.table[i] = some r := by
    obtain ⟨r, hi, -⟩ := holdsRecord_iff.mp hw
    exact ⟨r, hi⟩
  have happly : ¬ applyDue s i = true := fun hd => by
    obtain ⟨r, hi⟩ := hno _ hd
    exact h r hi ((due_of_met hi).1.mp hd).2
  have hexpiry : ¬ expiryDue s i = true := fun hd => by
    obtain ⟨r, hi⟩ := hno _ hd
    exact h r hi ((due_of_met hi).2.1.mp hd).2
  have hself : ¬ selfExpiryDue s i = true := fun hd => by
    obtain ⟨r, hi⟩ := hno _ hd
    exact h r hi ((due_of_met hi).2.2.mp hd).2
  rw [meetRecord, if_neg happly, if_neg hexpiry, if_neg hself]

theorem meetRecord_armed {s : State} {i : Fin 4} {r : SetRecord} (hi : s.part.table[i] = some r) (harmed : r.state = .armed)
    (hmet : recordMet s.time.now r) : meetRecord i s = applyRecord i s :=
  if_pos ((due_of_met hi).1.mpr ⟨harmed, hmet⟩)

/-- The set of the record at a position, when it expires at network time (R43). -/
def expiredAt (s : State) (i : Fin 4) : Option SetId := if expiryDue s i then s.part.table[i].map (·.set) else none

/-- The recently-closed list once the records of some sets have expired, one after the other (R26, R43). -/
def closedExpired (sets : List SetId) (closed : List ClosedEntry) : List ClosedEntry :=
  sets.foldl (fun closed set => closedWith { set := set, kind := .expired, missedSent := false } closed) closed

theorem meetRecord_undecided {s : State} {i : Fin 4} {r : SetRecord} (hi : s.part.table[i] = some r) (hr : undecided r)
    (hmet : recordMet s.time.now r) :
    Drops i r s (meetRecord i s) ∧ (meetRecord i s).part.closed = closedExpired (expiredAt s i).toList s.part.closed := by
  obtain ⟨happly, hexpiry, hself⟩ := due_of_met hi
  have hno : ¬ applyDue s i = true := fun h => by
    have harmed := (happly.mp h).1
    simp [undecided, harmed] at hr
  rw [meetRecord, if_neg hno]
  cases hown : r.self with
  | true =>
    have hnot : ¬ expiryDue s i = true := fun h => by
      have := (hexpiry.mp h).1.2
      rw [hown] at this
      cases this
    rw [if_neg hnot, if_pos (hself.mpr ⟨⟨hr, hown⟩, hmet⟩), expiredAt, if_neg hnot]
    exact ⟨drops_freeRecord hi hr, freeRecord_closed hi⟩
  | false =>
    have hdue := hexpiry.mpr ⟨⟨hr, hown⟩, hmet⟩
    rw [if_pos hdue, expiredAt, if_pos hdue, hi]
    exact ⟨expireRecord_drops hi hr, expireRecord_closed hi⟩

/-- An item of a channel that its record has claimed is handed over (R10, R11, R13, R14). -/
theorem handover_claimed {s : State} {r : SetRecord} {e : NetTime} {c : Fin 16} {it : Item}
    (hit : r.items.find? (onChannel c) = some it) (hclaim : s.part.claims[c] = some r.set) (hnone : s.chans[c].pending = none)
    (he : 0 ≤ sdiff s.time.now e) :
    let b := if it.load = .atEpoch then e else boundaryOf s.chans[c].active s.chans[c].anchor e
    (0 ≤ sdiff s.time.now b →
      (handover r.set e r.items s).chans[c] = { s.chans[c] with active := it.program, anchor := b } ∧
        (handover r.set e r.items s).part.claims[c] = none) ∧
    (sdiff s.time.now b < 0 →
      (handover r.set e r.items s).chans[c] =
          { s.chans[c] with pending := some { program := it.program, boundary := b, set := r.set } } ∧
        (handover r.set e r.items s).part.claims[c] = some r.set) := by
  have hany : r.items.any (onChannel c) = true :=
    List.any_eq_true.mpr ⟨it, List.mem_of_find?_eq_some hit, List.find?_some hit⟩
  have hat := handover_at (set := r.set) (e := e) (s := s) hit
  intro b
  refine ⟨fun hle => ?_, fun hlt => ?_⟩
  · have hch := hat.trans (takeItem_installed (.inl hle))
    refine ⟨hch, ?_⟩
    rw [handover_claim, if_pos ⟨hany, by rw [hch]; exact hnone, hclaim⟩]
  · have hne : loadInstant e it s.chans[c] ≠ e := fun heq => by
      change b = e at heq
      rw [heq] at hlt
      omega
    have hch := hat.trans (takeItem_waiting hlt hne)
    refine ⟨hch, ?_⟩
    rw [handover_claim, if_neg (by rw [hch]; simp), hclaim]

/-! ### The records of some positions, one after the other -/

/-- A record at one of the positions holds an item for the channel. -/
def holdsChannel (l : List (Fin 4)) (s : State) (c : Fin 16) (i : Fin 4) (r : SetRecord) : Prop :=
  i ∈ l ∧ s.part.table[i] = some r ∧ r.items.any (onChannel c) = true

/-- What network time makes of the records of some positions, each met once (R42, R43, R48). -/
structure RecordsPass (l : List (Fin 4)) (s t : State) : Prop where
  beside : bystanders s t
  time : t.time = s.time
  memb : t.memb = s.memb
  raises : raisesOnly [.setApplied, .setDropped] s t
  pending : ∀ n, isPending n s = true → isPending n t = true
  met : ∀ i ∈ l, ∀ r, s.part.table[i] = some r → recordMet s.time.now r →
    t.part.table[i] = none ∧ isPending (if r.state = .armed then .setApplied else .setDropped) t = true
  kept : ∀ i : Fin 4, (i ∈ l → ∀ r, s.part.table[i] = some r → ¬ recordMet s.time.now r) →
    t.part.table[i] = s.part.table[i]
  closed : t.part.closed = closedExpired (l.filterMap (expiredAt s)) s.part.closed
  chans : ∀ c : Fin 16, (∀ i r, holdsChannel l s c i r → r.state ≠ .armed ∨ ¬ recordMet s.time.now r) →
    t.chans[c] = s.chans[c]
  claims : ∀ c : Fin 16, (∀ i r, holdsChannel l s c i r → r.state = .staging ∨ ¬ recordMet s.time.now r) →
    t.part.claims[c] = s.part.claims[c]
  claim : ∀ c : Fin 16, t.part.claims[c] = none ∨ t.part.claims[c] = s.part.claims[c]
  freed : ∀ (c : Fin 16) i r, holdsChannel l s c i r → undecided r → recordMet s.time.now r →
    s.part.claims[c] = some r.set → t.part.claims[c] = none
  applied : ∀ (c : Fin 16) i r (e : NetTime) (it : Item), i ∈ l → s.part.table[i] = some r → r.state = .armed →
    r.epoch = some e → 0 ≤ sdiff s.time.now e → r.items.find? (onChannel c) = some it → s.part.claims[c] = some r.set →
    s.chans[c].pending = none → (∀ j q, holdsChannel l s c j q → j ≠ i → q.state = .staging) →
    let b := if it.load = .atEpoch then e else boundaryOf s.chans[c].active s.chans[c].anchor e
    (0 ≤ sdiff s.time.now b →
      t.chans[c] = { s.chans[c] with active := it.program, anchor := b } ∧ t.part.claims[c] = none) ∧
    (sdiff s.time.now b < 0 →
      t.chans[c] = { s.chans[c] with pending := some { program := it.program, boundary := b, set := r.set } } ∧
        t.part.claims[c] = some r.set)
  withdrawn : ∃ ws, Inquires ws ∧ WithdrawnTo ws s t ∧ ∀ f, namedBy ws f = true ↔
    ∃ i ∈ l, ∃ r, s.part.table[i] = some r ∧ r.state ≠ .armed ∧ recordMet s.time.now r ∧ isInquireFor r.set f = true

theorem expiredAt_none {s : State} {i : Fin 4} (h : ∀ r, s.part.table[i] = some r → ¬ recordMet s.time.now r) :
    expiredAt s i = none := by
  refine if_neg fun hdue => ?_
  obtain ⟨r, hi, -⟩ := holdsRecord_iff.mp hdue
  exact h r hi ((due_of_met hi).2.1.mp hdue).2

theorem met_of_epoch {now e : NetTime} {r : SetRecord} (harmed : r.state = .armed) (he : r.epoch = some e)
    (hle : 0 ≤ sdiff now e) : recordMet now r := ⟨by rw [harmed]; decide, e, he, hle⟩

/-- Records whose epochs lie ahead stay. -/
theorem recordsPass_refl {l : List (Fin 4)} {s : State}
    (h : ∀ i ∈ l, ∀ r, s.part.table[i] = some r → ¬ recordMet s.time.now r) : RecordsPass l s s where
  beside := ⟨rfl, rfl, rfl, rfl, rfl⟩
  time := rfl
  memb := rfl
  raises _ _ := rfl
  pending _ hn := hn
  met i hi r hr hmet := absurd hmet (h i hi r hr)
  kept _ _ := rfl
  closed := by
    rw [List.filterMap_eq_nil_iff.mpr fun i hi => expiredAt_none (h i hi)]
    rfl
  chans _ _ := rfl
  claims _ _ := rfl
  claim _ := .inr rfl
  freed c i r hr _ hmet := absurd hmet (h i hr.1 r hr.2.1)
  applied c i r e it hi hr harmed he hle := absurd (met_of_epoch harmed he hle) (h i hi r hr)
  withdrawn := ⟨[], nofun, .refl s,
    fun f => iff_of_false Bool.false_ne_true fun ⟨i, hi, r, hr, _, hmet, _⟩ => h i hi r hr hmet⟩

theorem holdsChannel_singleton {i j : Fin 4} {r q : SetRecord} {s : State} {c : Fin 16} (hi : s.part.table[i] = some r)
    (h : holdsChannel [i] s c j q) : j = i ∧ q = r := by
  obtain ⟨hj, hq, -⟩ := h
  obtain rfl := List.mem_singleton.mp hj
  exact ⟨rfl, Option.some.inj (hq.symm.trans hi)⟩

/-- An undecided record at its epoch goes. -/
theorem recordsPass_undecided {s t : State} {i : Fin 4} {r : SetRecord} (hi : s.part.table[i] = some r) (hr : undecided r)
    (hmet : recordMet s.time.now r) (hdrops : Drops i r s t)
    (hclosed : t.part.closed = closedExpired (expiredAt s i).toList s.part.closed) : RecordsPass [i] s t := by
  have harmed : r.state ≠ .armed := fun h => by simp [undecided, h] at hr
  have hat {j : Fin 4} {q : SetRecord} (hj : j ∈ [i]) (hq : s.part.table[j] = some q) : j = i ∧ q = r := by
    obtain rfl := List.mem_singleton.mp hj
    exact ⟨rfl, Option.some.inj (hq.symm.trans hi)⟩
  refine ⟨hdrops.stays.beside, hdrops.stays.time, hdrops.stays.memb, raisesOnly_mono hdrops.raises (by simp), fun n hn => ?_,
    fun j hj q hq _ => ?_, fun j hno => ?_, ?_, fun c _ => by rw [hdrops.stays.chans], fun c hno => ?_, fun c => ?_,
    fun c j q hq _ _ hclaim => ?_, fun c j q e it hj hq hqarmed => ?_, [isInquireFor r.set],
    fun w hw => ⟨r.set, List.mem_singleton.mp hw⟩, hdrops.withdrawn, fun f => ?_⟩
  · by_cases hd : n = .setDropped
    · exact hd ▸ hdrops.pending
    · exact (hdrops.raises n (by simp [hd])).trans hn
  · obtain ⟨rfl, rfl⟩ := hat hj hq
    exact ⟨hdrops.position, by rw [if_neg harmed]; exact hdrops.pending⟩
  · exact hdrops.others j fun hj => hno (by simp [hj]) r (hj ▸ hi) hmet
  · rw [hclosed, List.filterMap_cons, List.filterMap_nil]
    cases expiredAt s i <;> rfl
  · rw [hdrops.claims, if_neg]
    rintro ⟨hc, -⟩
    exact (hno i r ⟨List.mem_singleton_self i, hi, hc⟩).elim (undecided_ne_staging hr) fun h => h hmet
  · rw [hdrops.claims]
    split
    · exact .inl rfl
    · exact .inr rfl
  · obtain ⟨-, rfl⟩ := holdsChannel_singleton hi hq
    rw [hdrops.claims, if_pos ⟨hq.2.2, hclaim⟩]
  · obtain ⟨-, rfl⟩ := hat hj hq
    exact absurd hqarmed harmed
  · rw [namedBy_singleton]
    refine ⟨fun hf => ⟨i, List.mem_singleton_self i, r, hi, harmed, hmet, hf⟩, fun ⟨j, hj, q, hq, _, _, hf⟩ => ?_⟩
    obtain ⟨-, rfl⟩ := hat hj hq
    exact hf

/-- An ARMED record at its epoch is handed over. -/
theorem recordsPass_armed {s : State} {i : Fin 4} {r : SetRecord} (hi : s.part.table[i] = some r) (harmed : r.state = .armed)
    (hmet : recordMet s.time.now r) : RecordsPass [i] s (applyRecord i s) := by
  obtain ⟨-, e, he, hle⟩ := id hmet
  have hat {j : Fin 4} {q : SetRecord} (hj : j ∈ [i]) (hq : s.part.table[j] = some q) : j = i ∧ q = r := by
    obtain rfl := List.mem_singleton.mp hj
    exact ⟨rfl, Option.some.inj (hq.symm.trans hi)⟩
  have hexpired : expiredAt s i = none := by
    refine if_neg fun hdue => ?_
    have hund := ((due_of_met hi).2.1.mp hdue).1.1
    simp [undecided, harmed] at hund
  have hclaimed := @handover_claimed s r e
  have hclaim := handover_claim r.set e r.items s
  have hother (c : Fin 16) := @handover_other r.set e r.items s c
  obtain ⟨chans, claims, hframe⟩ : ∃ chans claims, handover r.set e r.items s =
      (s.setChans chans).setPart { s.part with claims := claims } := ⟨_, _, handover_frame _ _ _ _⟩
  rw [applyRecord_eq hi he, hframe]
  rw [hframe] at hclaimed hclaim hother
  refine ⟨⟨rfl, rfl, rfl, rfl, rfl⟩, rfl, rfl, raisesOnly_mono (raisesOnly_raise (n := .setApplied) rfl rfl) (by simp),
    fun n hn => ?_, fun j hj q hq _ => ?_, fun j hno => ?_, ?_, fun c hno => ?_, fun c hno => ?_, fun c => ?_,
    fun c j q hq hund => ?_, fun c j q e' it hj hq _ he' _ hit hcl hnone _ => ?_, [], nofun, ⟨rfl, rfl, rfl, rfl⟩, fun f => ?_⟩
  · exact isPending_of_raised (m := .setApplied) (by decide) rfl rfl hn
  · obtain ⟨rfl, rfl⟩ := hat hj hq
    refine ⟨putRecord_same _ _ _, ?_⟩
    rw [if_pos harmed]
    exact isPending_raise_self (by decide) _
  · have hj : j ≠ i := fun hj => hno (by simp [hj]) r (hj ▸ hi) hmet
    exact putRecord_other _ _ hj
  · rw [List.filterMap_cons, hexpired]
    rfl
  · refine hother c (List.find?_eq_none.mpr fun it hit hc => ?_)
    exact (hno i r ⟨List.mem_singleton_self i, hi, List.any_eq_true.mpr ⟨it, hit, hc⟩⟩).elim (fun h => h harmed)
      fun h => h hmet
  · refine (hclaim c).trans (if_neg fun ⟨hc, _⟩ => ?_)
    exact (hno i r ⟨List.mem_singleton_self i, hi, hc⟩).elim (fun h => by simp [harmed] at h) fun h => h hmet
  · by_cases hgone : r.items.any (onChannel c) = true ∧
        ((s.setChans chans).setPart { s.part with claims := claims }).chans[c].pending = none ∧ s.part.claims[c] = some r.set
    · exact .inl ((hclaim c).trans (if_pos hgone))
    · exact .inr ((hclaim c).trans (if_neg hgone))
  · obtain ⟨-, rfl⟩ := holdsChannel_singleton hi hq
    simp [undecided, harmed] at hund
  · obtain ⟨-, rfl⟩ := hat hj hq
    obtain rfl := Option.some.inj (he.symm.trans he')
    exact hclaimed hit hcl hnone hle
  · refine iff_of_false Bool.false_ne_true fun ⟨j, hj, q, hq, hne, _⟩ => ?_
    obtain ⟨-, rfl⟩ := hat hj hq
    exact hne harmed

theorem recordsPass_position (i : Fin 4) (s : State) : RecordsPass [i] s (meetRecord i s) := by
  by_cases h : ∃ r, s.part.table[i] = some r ∧ recordMet s.time.now r
  · obtain ⟨r, hi, hmet⟩ := h
    by_cases harmed : r.state = .armed
    · rw [meetRecord_armed hi harmed hmet]
      exact recordsPass_armed hi harmed hmet
    · have hund := undecided_of_state hmet.1 harmed
      obtain ⟨hdrops, hclosed⟩ := meetRecord_undecided hi hund hmet
      exact recordsPass_undecided hi hund hmet hdrops hclosed
  · have hno : ∀ r, s.part.table[i] = some r → ¬ recordMet s.time.now r := fun r hi hmet => h ⟨r, hi, hmet⟩
    rw [meetRecord_stays hno]
    exact recordsPass_refl fun j hj r hr => by
      obtain rfl := List.mem_singleton.mp hj
      exact hno r hr

theorem holdsChannel_cons {i : Fin 4} {l : List (Fin 4)} {s : State} {c : Fin 16} {j : Fin 4} {r : SetRecord}
    (h : holdsChannel (i :: l) s c j r) : holdsChannel [i] s c j r ∨ holdsChannel l s c j r := by
  obtain ⟨hj, hr⟩ := h
  exact (List.mem_cons.mp hj).imp (fun hj => ⟨List.mem_singleton.mpr hj, hr⟩) fun hj => ⟨hj, hr⟩

theorem holdsChannel_head {i : Fin 4} (l : List (Fin 4)) {s : State} {c : Fin 16} {j : Fin 4} {r : SetRecord}
    (h : holdsChannel [i] s c j r) : holdsChannel (i :: l) s c j r :=
  ⟨List.mem_cons.mpr (.inl (List.mem_singleton.mp h.1)), h.2⟩

theorem holdsChannel_tail (i : Fin 4) {l : List (Fin 4)} {s : State} {c : Fin 16} {j : Fin 4} {r : SetRecord}
    (h : holdsChannel l s c j r) : holdsChannel (i :: l) s c j r := ⟨List.mem_cons_of_mem i h.1, h.2⟩

/-- Records are met one after the other. -/
theorem RecordsPass.cons {i : Fin 4} {l : List (Fin 4)} {s t u : State} (hi : i ∉ l) (h : RecordsPass [i] s t)
    (h' : RecordsPass l t u) : RecordsPass (i :: l) s u := by
  obtain ⟨ws, hws, hw, hnamed⟩ := h.withdrawn
  obtain ⟨vs, hvs, hv, hnamed'⟩ := h'.withdrawn
  have hsame : ∀ j ∈ l, t.part.table[j] = s.part.table[j] := fun j hj =>
    h.kept j fun hj' => absurd (List.mem_singleton.mp hj' ▸ hj) hi
  have hnow : t.time.now = s.time.now := by rw [h.time]
  have hheld {c : Fin 16} {j : Fin 4} {r : SetRecord} : holdsChannel l t c j r ↔ holdsChannel l s c j r :=
    and_congr_right fun hj => by rw [hsame j hj]
  have hexpired : l.filterMap (expiredAt t) = l.filterMap (expiredAt s) := List.filterMap_congr fun j hj => by
    simp only [expiredAt, expiryDue, holdsRecord_eq, hsame j hj, epochReached, hnow]
  have hmem : ∀ {j : Fin 4}, j ∈ i :: l → j ∈ [i] ∨ j ∈ l := fun hj =>
    (List.mem_cons.mp hj).imp List.mem_singleton.mpr id
  have hhead : ∀ {j : Fin 4}, j ∈ [i] → j ∈ i :: l := fun hj => List.mem_cons.mpr (.inl (List.mem_singleton.mp hj))
  obtain ⟨hctl, hcapt, hport, hpending, henable⟩ := h.beside
  obtain ⟨hctl', hcapt', hport', hpending', henable'⟩ := h'.beside
  refine ⟨⟨hctl'.trans hctl, hcapt'.trans hcapt, hport'.trans hport, hpending'.trans hpending, henable'.trans henable⟩,
    h'.time.trans h.time, h'.memb.trans h.memb, raisesOnly_trans h.raises h'.raises, fun n hn => h'.pending n (h.pending n hn),
    fun j hj r hr hmet => ?_, fun j hno => ?_, ?_, fun c hno => ?_, fun c hno => ?_, fun c => ?_, fun c j r hr hund hmet hcl => ?_,
    fun c j r e it hj hr harmed he hle hit hcl hnone halone => ?_, ws ++ vs, hws.append hvs, hw.trans hv, fun f => ?_⟩
  · rcases hmem hj with hj | hj
    · obtain ⟨hgone, hraised⟩ := h.met j hj r hr hmet
      refine ⟨(h'.kept j fun hj' => ?_).trans hgone, h'.pending _ hraised⟩
      exact absurd (List.mem_singleton.mp hj ▸ hj') hi
    · exact h'.met j hj r ((hsame j hj).trans hr) (hnow ▸ hmet)
  · refine (h'.kept j fun hj r hr => ?_).trans (h.kept j fun hj => hno (hhead hj))
    rw [hnow]
    exact hno (List.mem_cons_of_mem _ hj) r ((hsame j hj).symm.trans hr)
  · rw [h'.closed, h.closed, hexpired]
    have happend : (i :: l).filterMap (expiredAt s) = [i].filterMap (expiredAt s) ++ l.filterMap (expiredAt s) :=
      List.filterMap_append (l := [i])
    rw [happend, closedExpired, closedExpired, closedExpired, List.foldl_append]
  · refine (h'.chans c fun j r hr => ?_).trans (h.chans c fun j r hr => hno j r (holdsChannel_head l hr))
    rw [hnow]
    exact hno j r (holdsChannel_tail i (hheld.mp hr))
  · refine (h'.claims c fun j r hr => ?_).trans (h.claims c fun j r hr => hno j r (holdsChannel_head l hr))
    rw [hnow]
    exact hno j r (holdsChannel_tail i (hheld.mp hr))
  · rcases h'.claim c with hnone | hs
    · exact .inl hnone
    · rw [hs]
      exact h.claim c
  · have hgone (hnone : t.part.claims[c] = none) : u.part.claims[c] = none := (h'.claim c).elim id (·.trans hnone)
    rcases holdsChannel_cons hr with hr | hr
    · exact hgone (h.freed c j r hr hund hmet hcl)
    · rcases h.claim c with hnone | hs
      · exact hgone hnone
      · exact h'.freed c j r (hheld.mpr hr) hund (hnow.symm ▸ hmet) (hs.trans hcl)
  · have hstaging {k : Fin 4} {q : SetRecord} (hq : holdsChannel (i :: l) s c k q) (hk : k ≠ j) : q.state = .staging :=
      halone k q hq hk
    rcases hmem hj with hj | hj
    · obtain rfl := List.mem_singleton.mp hj
      have happlied := h.applied c j r e it hj hr harmed he hle hit hcl hnone fun k q hq => halone k q (holdsChannel_head l hq)
      have htail {k : Fin 4} {q : SetRecord} (hq : holdsChannel l t c k q) : q.state = .staging := by
        refine hstaging (holdsChannel_tail j (hheld.mp hq)) fun hk => hi (hk ▸ hq.1)
      have hchans := h'.chans c fun k q hq => .inl (by rw [htail hq]; decide)
      have hclaims := h'.claims c fun k q hq => .inl (htail hq)
      rw [hchans, hclaims]
      exact happlied
    · have hne : j ≠ i := fun hk => hi (hk ▸ hj)
      have hhead' {k : Fin 4} {q : SetRecord} (hq : holdsChannel [i] s c k q) : q.state = .staging := by
        refine hstaging (holdsChannel_head l hq) ?_
        rw [List.mem_singleton.mp hq.1]
        exact hne.symm
      have hchans := h.chans c fun k q hq => .inl (by rw [hhead' hq]; decide)
      have hclaims := h.claims c fun k q hq => .inl (hhead' hq)
      have happlied := h'.applied c j r e it hj ((hsame j hj).trans hr) harmed he (hnow.symm ▸ hle) hit (hclaims.trans hcl)
        (by rw [hchans]; exact hnone) fun k q hq => halone k q (holdsChannel_tail i (hheld.mp hq))
      rw [hchans, hnow] at happlied
      exact happlied
  · rw [namedBy_append, Bool.or_eq_true, hnamed, hnamed', hnow]
    constructor
    · rintro (⟨j, hj, r, hr, hrest⟩ | ⟨j, hj, r, hr, hrest⟩)
      · exact ⟨j, hhead hj, r, hr, hrest⟩
      · exact ⟨j, List.mem_cons_of_mem _ hj, r, (hsame j hj).symm.trans hr, hrest⟩
    · rintro ⟨j, hj, r, hr, hrest⟩
      rcases hmem hj with hj | hj
      · exact .inl ⟨j, hj, r, hr, hrest⟩
      · exact .inr ⟨j, hj, r, (hsame j hj).trans hr, hrest⟩

theorem recordsPass_positions {l : List (Fin 4)} (hl : l.Nodup) (s : State) :
    RecordsPass l s (l.foldl (fun t i => meetRecord i t) s) := by
  induction l generalizing s with
  | nil => exact recordsPass_refl nofun
  | cons i l ih =>
    obtain ⟨hi, hrest⟩ := List.nodup_cons.mp hl
    exact (recordsPass_position i s).cons hi (ih hrest _)

/-! ### Swaps at their boundaries (R16, R27) -/

/-- What network time makes of the swaps of some channels (R16). -/
structure SwapsPass (l : List (Fin 16)) (s t : State) : Prop where
  frame : ∃ chans claims notes, t = ((s.setChans chans).setPart { s.part with claims := claims }).setNotes notes ∧
    notes.enable = s.notes.enable
  raises : raisesOnly [.setApplied] s t
  pending : ∀ n, isPending n s = true → isPending n t = true
  done : ∀ c ∈ l, ∀ w, s.chans[c].pending = some w → 0 ≤ sdiff s.time.now w.boundary →
    t.chans[c] = { s.chans[c] with active := w.program, anchor := w.boundary, pending := none } ∧
      isPending .setApplied t = true ∧
      t.part.claims[c] = if s.part.claims[c] = some w.set then none else s.part.claims[c]
  kept : ∀ c : Fin 16, (c ∈ l → ∀ w, s.chans[c].pending = some w → sdiff s.time.now w.boundary < 0) →
    t.chans[c] = s.chans[c] ∧ t.part.claims[c] = s.part.claims[c]

theorem swapsPass_refl {l : List (Fin 16)} {s : State}
    (h : ∀ c ∈ l, ∀ w, s.chans[c].pending = some w → sdiff s.time.now w.boundary < 0) : SwapsPass l s s where
  frame := ⟨s.chans, s.part.claims, s.notes, rfl, rfl⟩
  raises _ _ := rfl
  pending _ hn := hn
  done c hc w hw hle := absurd (h c hc w hw) (Int.not_lt.mpr hle)
  kept _ _ := ⟨rfl, rfl⟩

theorem swapsPass_channel (c : Fin 16) (s : State) : SwapsPass [c] s (completeSwap c s) := by
  by_cases h : ∃ w, s.chans[c].pending = some w ∧ 0 ≤ sdiff s.time.now w.boundary
  · obtain ⟨w, hw, hle⟩ := h
    rw [completeSwap_due hw (reached_iff.mpr hle)]
    generalize hchans : s.chans.set c.val { s.chans[c] with active := w.program, anchor := w.boundary, pending := none } = chans
    have hclaim := releaseClaim_claim c w.set (s.setChans chans)
    rw [releaseClaim_frame] at hclaim ⊢
    generalize (releaseClaim c w.set (s.setChans chans)).part.claims = claims at hclaim ⊢
    refine ⟨⟨chans, claims, (raise .setApplied s).notes, rfl, rfl⟩, raisesOnly_raise rfl rfl,
      fun n hn => isPending_of_raised (m := .setApplied) (by decide) rfl rfl hn, fun d hd v hv _ => ?_, fun d hno => ?_⟩
    · obtain rfl := List.mem_singleton.mp hd
      obtain rfl := Option.some.inj (hw.symm.trans hv)
      refine ⟨?_, isPending_raise_self (by decide) _, (hclaim d).trans (by simp)⟩
      change chans[d] = _
      simp [← hchans]
    · have hne : d ≠ c := fun hd => absurd (hno (by simp [hd]) w (hd ▸ hw)) (Int.not_lt.mpr hle)
      refine ⟨?_, (hclaim d).trans (if_neg fun h => hne h.1)⟩
      change chans[d] = _
      rw [← hchans]
      exact Vector.getElem_set_ne c.isLt d.isLt fun h => hne (Fin.ext h.symm)
  · have hno : ∀ w, s.chans[c].pending = some w → sdiff s.time.now w.boundary < 0 := fun w hw =>
      Int.not_le.mp fun hle => h ⟨w, hw, hle⟩
    have hidle : swapDue s c = false := by
      cases hw : s.chans[c].pending with
      | none => simp only [swapDue, hw]
      | some w =>
        simp only [swapDue, hw]
        exact Bool.eq_false_iff.mpr fun hr => absurd (hno w hw) (Int.not_lt.mpr (reached_iff.mp hr))
    rw [completeSwap_idle hidle]
    exact swapsPass_refl fun d hd w hw => by
      obtain rfl := List.mem_singleton.mp hd
      exact hno w hw

theorem SwapsPass.cons {c : Fin 16} {l : List (Fin 16)} {s t u : State} (hc : c ∉ l) (h : SwapsPass [c] s t)
    (h' : SwapsPass l t u) : SwapsPass (c :: l) s u := by
  obtain ⟨chans, claims, notes, hframe, henable⟩ := h.frame
  obtain ⟨chans', claims', notes', hframe', henable'⟩ := h'.frame
  have hnow : t.time.now = s.time.now := by rw [hframe]; rfl
  have hsame : ∀ d ∈ l, t.chans[d] = s.chans[d] ∧ t.part.claims[d] = s.part.claims[d] := fun d hd =>
    h.kept d fun hd' => absurd (List.mem_singleton.mp hd' ▸ hd) hc
  refine ⟨⟨chans', claims', notes', ?_, ?_⟩, raisesOnly_trans h.raises h'.raises, fun n hn => h'.pending n (h.pending n hn),
    fun d hd w hw hle => ?_, fun d hno => ?_⟩
  · rw [hframe', hframe]
    rfl
  · rw [henable', hframe]
    exact henable
  · rcases List.mem_cons.mp hd with rfl | hd
    · obtain ⟨hchan, hraised, hclaim⟩ := h.done d (List.mem_singleton_self d) w hw hle
      obtain ⟨hchan', hclaim'⟩ := h'.kept d fun hd' => absurd hd' hc
      exact ⟨hchan'.trans hchan, h'.pending _ hraised, hclaim'.trans hclaim⟩
    · obtain ⟨hchan, hclaim⟩ := hsame d hd
      have hdone := h'.done d hd w (by rw [hchan]; exact hw) (by rw [hnow]; exact hle)
      rwa [hchan, hclaim] at hdone
  · obtain ⟨hchan, hclaim⟩ := h.kept d fun hd w hw => hno (List.mem_cons.mpr (.inl (List.mem_singleton.mp hd))) w hw
    obtain ⟨hchan', hclaim'⟩ := h'.kept d fun hd w hw => by
      rw [hnow]
      exact hno (List.mem_cons_of_mem _ hd) w (by rw [← (hsame d hd).1]; exact hw)
    exact ⟨hchan'.trans hchan, hclaim'.trans hclaim⟩

theorem swapsPass_channels {l : List (Fin 16)} (hl : l.Nodup) (s : State) :
    SwapsPass l s (l.foldl (fun t c => completeSwap c t) s) := by
  induction l generalizing s with
  | nil => exact swapsPass_refl nofun
  | cons c l ih =>
    obtain ⟨hc, hrest⟩ := List.nodup_cons.mp hl
    exact (swapsPass_channel c s).cons hc (ih hrest _)

end Sys2Proof.Machine


/-! PROOFS. A step of network time: what it passes over, block by block (R45, R67 to R69, R85 to R87). -/

namespace Sys2Proof.Machine

/-! ### The self record of a proposal, found by its set id (R24, R48) -/

/-- No two positions hold records of one set id (R24). -/
def IdsApart (s : State) : Prop :=
  ∀ (i j : Fin 4) (r q : SetRecord), s.part.table[i] = some r → s.part.table[j] = some q → r.set = q.set → i = j

theorem idsApart_of_storeSound {s : State} (h : StoreSound s) : IdsApart s := by
  intro i j r q hi hj hset
  by_contra hne
  have hdistinct := h.2.1 i j hne
  rw [hi, hj] at hdistinct
  exact hdistinct hset

theorem isSelfRecord_of_apart {s : State} (hids : IdsApart s) {set : SetId} {i : Fin 4} {r : SetRecord}
    (hi : s.part.table[i] = some r) (hown : isOwn set r) : isSelfRecord s set i r := by
  refine ⟨hi, hown, fun j hj => ?_⟩
  cases hq : s.part.table[j] with
  | none => rfl
  | some q =>
    refine Bool.eq_false_iff.mpr fun hown' => hj.ne (hids j i q r hq hi ?_)
    exact (of_decide_eq_true hown').1.trans hown.1.symm

/-- The self record freed takes its set's INQUIRE with it, and no other frame (R37). -/
theorem freeSelf_withdrawn (set : SetId) {s : State} (hids : IdsApart s) :
    ∃ ws, Inquires ws ∧ WithdrawnTo ws s (freeSelf set s) ∧ ∀ f, namedBy ws f = true ↔ (∃ i r, isSelfRecord s set i r) ∧ isInquireFor set f = true := by
  cases hfind : findSelf set s with
  | none =>
    have hsame : freeSelf set s = s := by simp only [freeSelf, hfind]
    rw [hsame]
    refine ⟨[], nofun, .refl s, fun f => iff_of_false Bool.false_ne_true fun ⟨⟨i, r, hr⟩, _⟩ => ?_⟩
    rw [findSelf_isSelfRecord hr] at hfind
    cases hfind
  | some i =>
    obtain ⟨r, hi, rfl, hself, harmed⟩ := findSelf_some hfind
    have heq : freeSelf r.set s = raiseIf (r.state == .voted) .setDropped (freeRecord i s) := by
      simp only [freeSelf, hfind, holdsRecord_at hi]
    have hex : ∃ j q, isSelfRecord s r.set j q := ⟨i, r, isSelfRecord_of_apart hids hi ⟨rfl, hself, harmed⟩⟩
    rw [heq]
    refine ⟨[isInquireFor r.set], fun w hw => ⟨r.set, List.mem_singleton.mp hw⟩, (freeRecord_withdrawn hi).raiseIf _ _,
      fun f => ?_⟩
    rw [namedBy_singleton, and_iff_right hex]

/-! ### The proposal at its epoch (R67 to R69) -/

/-- What the epoch makes of the proposal and its frames, its self record apart, when network time has reached it in a phase that
it ends; and that it leaves them otherwise. -/
inductive ProposalMet (s : State) : State → Prop
  | stays (h : ¬ meetsEpoch s) : ProposalMet s s
  | aborts (p : Proposal) (hp : s.prop.activity = .active p) (hend : endsPhase s.time.now p)
      (hphase : p.phase = .staging ∨ p.phase = .calling) : ProposalMet s (abortOffered p .late s)
  | closes (p : Proposal) (reason : AbortReason) (hp : s.prop.activity = .active p) (hend : endsPhase s.time.now p)
      (hphase : p.phase = .committing ∧ reason = .late ∨ p.phase = .aborting ∧ reason = storedReason p) :
      ProposalMet s (closeWith (closingEntry p (some reason)) (s.setLine (lineRecalled s)))

theorem meetProposerEpoch_met (s : State) :
    meetProposerEpoch s = s ∧ ¬ meetsEpoch s ∨
      ∃ p x, s.prop.activity = .active p ∧ endsPhase s.time.now p ∧ ProposalMet s x ∧
        meetProposerEpoch s = freeSelf p.set x := by
  by_cases h : meetsEpoch s
  · obtain ⟨p, hp, hend⟩ := h
    refine .inr ⟨p, ?_⟩
    obtain ⟨hle, hphase⟩ := id hend
    rcases hphase with hphase | hphase | hphase | ⟨hphase, hcall⟩
    · exact ⟨_, hp, hend, .aborts p hp hend (.inl hphase),
        (meetProposerEpoch_staging hp hle (.inl hphase)).trans (abortProposal_offered hp _)⟩
    · exact ⟨_, hp, hend, .aborts p hp hend (.inr hphase),
        (meetProposerEpoch_staging hp hle (.inr hphase)).trans (abortProposal_offered hp _)⟩
    · exact ⟨_, hp, hend, .closes p .late hp hend (.inl ⟨hphase, rfl⟩),
        (meetProposerEpoch_committing hp hle hphase).trans (closeAborted_eq hp _)⟩
    · refine ⟨_, hp, hend, .closes p (storedReason p) hp hend (.inr ⟨hphase, rfl⟩), ?_⟩
      have hdue : proposerEpochDue s = true := proposerEpochDue_iff.mpr ⟨p, hp, hend⟩
      rw [← closeAborted_eq hp]
      simp only [meetProposerEpoch, if_pos hdue, hp, hphase]
  · refine .inl ⟨if_neg (mt proposerEpochDue_iff.mp h), h⟩

/-- What the epoch leaves beside the proposal, the queue and the line. -/
structure Aside (s x : State) : Prop where
  part : x.part = s.part
  stays : OthersStay s x
  raises : raisesOnly [.outcome] s x

theorem ProposalMet.aside {s x : State} (h : ProposalMet s x) : Aside s x := by
  cases h with
  | stays h => exact ⟨rfl, .refl s, fun _ _ => rfl⟩
  | aborts p hp hend hphase => exact ⟨rfl, ⟨⟨rfl, rfl, rfl, rfl, rfl⟩, rfl, rfl, rfl, rfl⟩, fun _ _ => rfl⟩
  | closes p reason hp hend hphase =>
    exact ⟨rfl, ⟨⟨rfl, rfl, rfl, rfl, rfl⟩, rfl, rfl, rfl, rfl⟩, raisesOnly_raise rfl rfl⟩

/-- What the epoch at `s.time.now` makes of the proposer and the self record of its set. -/
structure ProposerPass (s t : State) : Prop where
  stays : OthersStay s t
  raises : raisesOnly [.setDropped, .outcome] s t
  closed : t.part.closed = s.part.closed
  gone : ∀ (i : Fin 4) (r : SetRecord), s.part.table[i] = some r → goesWithProposal s.time.now s r →
    t.part.table[i] = none ∧ (r.state = .voted → isPending .setDropped t = true)
  kept : ∀ i : Fin 4, (∀ r, s.part.table[i] = some r → ¬ goesWithProposal s.time.now s r) → t.part.table[i] = s.part.table[i]
  freed : ∀ (c : Fin 16) (i : Fin 4) (r : SetRecord), s.part.table[i] = some r → goesWithProposal s.time.now s r →
    r.state ≠ .staging → r.items.any (onChannel c) = true → s.part.claims[c] = some r.set → t.part.claims[c] = none
  claims : ∀ c : Fin 16, (∀ (i : Fin 4) (r : SetRecord), s.part.table[i] = some r → r.items.any (onChannel c) = true →
    r.state = .staging ∨ ¬ goesWithProposal s.time.now s r) → t.part.claims[c] = s.part.claims[c]
  line : ∃ x ws, ProposalMet s x ∧ isPending .outcome t = isPending .outcome x ∧ Inquires ws ∧ WithdrawnTo ws x t ∧
    ∀ f, namedBy ws f = true ↔ ∃ (i : Fin 4) (r : SetRecord), s.part.table[i] = some r ∧
      goesWithProposal s.time.now s r ∧ isInquireFor r.set f = true

theorem proposerPass_meetProposerEpoch {s : State} (hids : IdsApart s) : ProposerPass s (meetProposerEpoch s) := by
  rcases meetProposerEpoch_met s with ⟨heq, hno⟩ | ⟨p, x, hp, hend, hmet, heq⟩
  · rw [heq]
    have hnone : ∀ r, ¬ goesWithProposal s.time.now s r := fun r ⟨_, _, p, hp, _, hend⟩ => hno ⟨p, hp, hend⟩
    exact ⟨.refl s, fun _ _ => rfl, rfl, fun i r _ h => absurd h (hnone r), fun _ _ => rfl, fun c i r _ h => absurd h (hnone r),
      fun _ _ => rfl, s, [], .stays hno, rfl, nofun, .refl s,
      fun f => iff_of_false Bool.false_ne_true fun ⟨i, r, _, h, _⟩ => hnone r h⟩
  · obtain ⟨hpart, hstays, hraises⟩ := hmet.aside
    have hids' : IdsApart x := by
      unfold IdsApart
      rw [hpart]
      exact hids
    obtain ⟨ws, hws, hw, hnamed⟩ := freeSelf_withdrawn p.set hids'
    obtain ⟨⟨hclosed, hnoself, hself⟩, hstays', hraises', -⟩ := selfFreed_freeSelf p.set x
    rw [heq]
    generalize freeSelf p.set x = t at *
    have hgoes {r : SetRecord} : goesWithProposal s.time.now s r ↔ isOwn p.set r := by
      constructor
      · rintro ⟨hown, harmed, q, hq, hset, -⟩
        obtain rfl := Activity.active.inj (hp.symm.trans hq)
        exact ⟨hset.symm, hown, harmed⟩
      · exact fun ⟨hset, hown, harmed⟩ => ⟨hown, harmed, p, hp, hset.symm, hend⟩
    have hrecord {i : Fin 4} {r : SetRecord} (hi : s.part.table[i] = some r) (hg : goesWithProposal s.time.now s r) :
        isSelfRecord x p.set i r := isSelfRecord_of_apart hids' (by rw [hpart]; exact hi) (hgoes.mp hg)
    have hback {i : Fin 4} {r : SetRecord} (hr : isSelfRecord x p.set i r) :
        s.part.table[i] = some r ∧ goesWithProposal s.time.now s r := ⟨by rw [← hpart]; exact hr.1, hgoes.mpr hr.2.1⟩
    have hall : (∃ j q, isSelfRecord x p.set j q) ∨ noSelfRecord x p.set := by
      refine (em _).imp id fun hno i => ?_
      cases hi : x.part.table[i] with
      | none => rfl
      | some r =>
        exact Bool.eq_false_iff.mpr fun hown => hno ⟨i, r, isSelfRecord_of_apart hids' hi (of_decide_eq_true hown)⟩
    refine ⟨hstays.trans hstays', raisesOnly_trans (raisesOnly_mono hraises (by simp)) (raisesOnly_mono hraises' (by simp)),
      hclosed.trans (by rw [hpart]), fun i r hi hg => ?_, fun i hno => ?_, fun c i r hi hg hst hc hcl => ?_, fun c hno => ?_,
      x, ws, hmet, hraises' .outcome (by decide), hws, hw, fun f => ?_⟩
    · obtain ⟨hgone, -, hdropped, -⟩ := hself i r (hrecord hi hg)
      exact ⟨hgone, hdropped⟩
    · rcases hall with ⟨j, q, hq⟩ | hnone
      · obtain ⟨-, hothers, -⟩ := hself j q hq
        obtain ⟨hj, hg⟩ := hback hq
        rw [hothers i fun hi => hno q (hi ▸ hj) hg, hpart]
      · rw [(hnoself hnone).1, hpart]
    · obtain ⟨-, -, -, hclaims⟩ := hself i r (hrecord hi hg)
      rw [hclaims, hpart, if_pos ⟨hst, hc, hcl⟩]
    · rcases hall with ⟨j, q, hq⟩ | hnone
      · obtain ⟨-, -, -, hclaims⟩ := hself j q hq
        obtain ⟨hj, hg⟩ := hback hq
        rw [hclaims, hpart, if_neg fun ⟨hst, hc, _⟩ => (hno j q hj hc).elim hst fun h => h hg]
      · rw [(hnoself hnone).2, hpart]
    · rw [hnamed]
      constructor
      · rintro ⟨⟨i, r, hr⟩, hf⟩
        obtain ⟨hi, hg⟩ := hback hr
        exact ⟨i, r, hi, hg, by rw [hr.2.1.1]; exact hf⟩
      · rintro ⟨i, r, hi, hg, hf⟩
        have hr := hrecord hi hg
        exact ⟨⟨i, r, hr⟩, by rw [← hr.2.1.1]; exact hf⟩

/-! ### The records, the channels and their claims (R42 to R48) -/

/-- What a step meets, one after the other: the proposal, the records of every position, the swaps of every channel. -/
structure StepPass (l : List (Fin 4)) (s t u v : State) : Prop where
  proposer : ProposerPass s t
  records : RecordsPass l t u
  swaps : SwapsPass (List.finRange 16) u v
  nodup : l.Nodup
  all : ∀ i, i ∈ l

section
variable {l : List (Fin 4)} {s t u v : State}

theorem StepPass.now (h : StepPass l s t u v) : t.time.now = s.time.now := by rw [h.proposer.stays.time]

theorem StepPass.part (h : StepPass l s t u v) : v.part.table = u.part.table ∧ v.part.closed = u.part.closed := by
  obtain ⟨chans, claims, notes, hframe, -⟩ := h.swaps.frame
  rw [hframe]
  exact ⟨rfl, rfl⟩

/-- A record that the proposal's end has left was there before it. -/
theorem StepPass.record (h : StepPass l s t u v) {i : Fin 4} {r : SetRecord} :
    t.part.table[i] = some r ↔ s.part.table[i] = some r ∧ ¬ goesWithProposal s.time.now s r := by
  by_cases hg : ∃ q, s.part.table[i] = some q ∧ goesWithProposal s.time.now s q
  · obtain ⟨q, hq, hg⟩ := hg
    rw [(h.proposer.gone i q hq hg).1]
    refine iff_of_false (Option.some_ne_none r).symm fun ⟨hr, hno⟩ => hno ?_
    rwa [← Option.some.inj (hq.symm.trans hr)]
  · have hkept := h.proposer.kept i fun q hq hgq => hg ⟨q, hq, hgq⟩
    rw [hkept]
    exact ⟨fun hr => ⟨hr, fun hgr => hg ⟨r, hr, hgr⟩⟩, fun hr => hr.1⟩

/-- A notice pending after the records stays pending. -/
theorem StepPass.pending (h : StepPass l s t u v) {n : Notice} (hn : isPending n t = true) : isPending n v = true :=
  h.swaps.pending n (h.records.pending n hn)

theorem mem_expired (h : StepPass l s t u v) (set : SetId) : set ∈ l.filterMap (expiredAt t) ↔
    ∃ (i : Fin 4) (r : SetRecord), s.part.table[i] = some r ∧ r.set = set ∧ recordMet s.time.now r ∧ r.state ≠ .armed ∧
      r.self = false := by
  rw [List.mem_filterMap]
  constructor
  · rintro ⟨i, -, hi⟩
    unfold expiredAt at hi
    split at hi
    next hdue =>
      obtain ⟨r, hr, rfl⟩ := Option.map_eq_some_iff.mp hi
      obtain ⟨⟨hund, hself⟩, hmet⟩ := (due_of_met hr).2.1.mp hdue
      rw [h.now] at hmet
      exact ⟨i, r, (h.record.mp hr).1, rfl, hmet, fun ha => by simp [undecided, ha] at hund, hself⟩
    next => cases hi
  · rintro ⟨i, r, hr, rfl, hmet, harmed, hself⟩
    have hr' := h.record.mpr ⟨hr, fun ⟨hown, _⟩ => by rw [hself] at hown; cases hown⟩
    refine ⟨i, h.all i, ?_⟩
    rw [expiredAt, if_pos ((due_of_met hr').2.1.mpr ⟨⟨undecided_of_state hmet.1 harmed, hself⟩, h.now ▸ hmet⟩), hr']
    rfl

theorem nodup_expired (h : StepPass l s t u v) (hids : IdsApart s) : (l.filterMap (expiredAt t)).Nodup := by
  have hat {i : Fin 4} {set : SetId} (hi : set ∈ expiredAt t i) : ∃ r, s.part.table[i] = some r ∧ r.set = set := by
    unfold expiredAt at hi
    split at hi
    next =>
      obtain ⟨r, hr, hset⟩ := Option.map_eq_some_iff.mp hi
      exact ⟨r, (h.record.mp hr).1, hset⟩
    next => cases hi
  refine h.nodup.filterMap fun i j set hi hj => ?_
  obtain ⟨r, hr, hset⟩ := hat hi
  obtain ⟨q, hq, hset'⟩ := hat hj
  exact hids i j r q hr hq (hset.trans hset'.symm)

theorem StepPass.recordsMeet (h : StepPass l s t u v) (hids : IdsApart s) (hdoubt : ∀ (i : Fin 4) (r : SetRecord),
    s.part.table[i] = some r → r.self = true → r.state ≠ .inDoubt) : recordsMeet s.time.now s v := by
  obtain ⟨htable, hclosed⟩ := h.part
  have hempty {i : Fin 4} (hi : t.part.table[i] = none) : v.part.table[i] = none := by
    rw [htable, h.records.kept i fun _ r hr => by rw [hi] at hr; cases hr]
    exact hi
  have hmets {i : Fin 4} {r : SetRecord} (hmet : recordMet s.time.now r) (hi : s.part.table[i] = some r)
      (hgoes : ¬ goesWithProposal s.time.now s r) :
      v.part.table[i] = none ∧ isPending (if r.state = .armed then .setApplied else .setDropped) v = true := by
    obtain ⟨hgone, hraised⟩ := h.records.met i (h.all i) r (h.record.mpr ⟨hi, hgoes⟩) (h.now ▸ hmet)
    exact ⟨by rw [htable]; exact hgone, h.swaps.pending _ hraised⟩
  refine ⟨fun i => ⟨fun hnone => ?_, fun r hi =>
    ⟨fun hgone => ?_, fun hmet hgoes => ?_, fun hmet harmed => ?_, fun hdrop => ?_⟩⟩,
    l.filterMap (expiredAt t), nodup_expired h hids, mem_expired h, ?_⟩
  · exact hempty (by rw [h.proposer.kept i fun r hr => by rw [hnone] at hr; cases hr]; exact hnone)
  · by_cases hgoes : goesWithProposal s.time.now s r
    · exact hempty (h.proposer.gone i r hi hgoes).1
    · exact (hmets (hgone.resolve_right hgoes) hi hgoes).1
  · have ht := h.record.mpr ⟨hi, hgoes⟩
    rw [htable, h.records.kept i fun _ q hq hmetq => hmet ?_]
    · exact ht
    · rwa [h.now, Option.some.inj (hq.symm.trans ht)] at hmetq
  · have hraised := (hmets hmet hi fun hgoes => hgoes.2.1 harmed).2
    rwa [if_pos harmed] at hraised
  · rcases hdrop with ⟨hmet, harmed⟩ | ⟨hgoes, hvoted⟩
    · by_cases hgoes : goesWithProposal s.time.now s r
      · refine h.pending ((h.proposer.gone i r hi hgoes).2 ?_)
        exact (undecided_of_state hmet.1 harmed).resolve_right (hdoubt i r hi hgoes.1)
      · have hraised := (hmets hmet hi hgoes).2
        rwa [if_neg harmed] at hraised
    · exact h.pending ((h.proposer.gone i r hi hgoes).2 hvoted)
  · rw [hclosed, h.records.closed, h.proposer.closed]
    rfl

/-- Beside the voted record that holds a channel only STAGING ones name it (R27, R33). -/
theorem staging_of_other {i j : Fin 4} {r q : SetRecord} {c : Fin 16} (hclaims : ClaimsSound s) (hi : s.part.table[i] = some r)
    (hst : r.state ≠ .staging) (hc : r.items.any (onChannel c) = true) (hj : s.part.table[j] = some q)
    (hcq : q.items.any (onChannel c) = true) (hne : j ≠ i) : q.state = .staging := by
  have hholder : recordHolder s i c = some r.set := by simp only [recordHolder, hi, if_pos (And.intro hst hc)]
  have hnone := ((hclaims c).1 i (by simp [hholder])).2.2 j hne
  by_contra hstq
  simp [recordHolder, hj, hstq, hcq] at hnone

theorem StepPass.channelsMeet (h : StepPass l s t u v) (hclaims : ClaimsSound s) : channelsMeet s.time.now s v := by
  intro c kept
  have hrecord {i : Fin 4} {r : SetRecord} (hr : holdsChannel l t c i r) :
      s.part.table[i] = some r ∧ r.items.any (onChannel c) = true ∧ ¬ goesWithProposal s.time.now s r := by
    obtain ⟨hi, hgoes⟩ := h.record.mp hr.2.1
    exact ⟨hi, hr.2.2, hgoes⟩
  have hchans : t.chans = s.chans := h.proposer.stays.chans
  have hunow : u.time.now = s.time.now := by rw [h.records.time, h.now]
  have hmem : c ∈ List.finRange 16 := List.mem_finRange c
  have hquiet (hno : ∀ w, u.chans[c].pending = some w → sdiff s.time.now w.boundary < 0) :
      v.chans[c] = u.chans[c] ∧ v.part.claims[c] = u.part.claims[c] :=
    h.swaps.kept c fun _ w hw => hunow ▸ hno w hw
  refine ⟨fun w hw => ?swap, fun hnone => ⟨fun i r e it hi harmed he hle hit => ?armed, fun hno => ?kept,
    fun i r hi hc hund hgone => ?freed, fun hno => ?claims⟩⟩
  case swap =>
    have hstaging : ∀ (i : Fin 4) (r : SetRecord), s.part.table[i] = some r → r.items.any (onChannel c) = true →
        r.state = .staging := fun i r hi hc => by
      by_contra hst
      have := (claim_of_record hclaims hi hst hc).2
      rw [hw] at this
      cases this
    have hchan : u.chans[c] = s.chans[c] :=
      (h.records.chans c fun i r hr => .inl (by rw [hstaging i r (hrecord hr).1 hr.2.2]; decide)).trans (by rw [hchans])
    have hclaim : u.part.claims[c] = s.part.claims[c] :=
      (h.records.claims c fun i r hr => .inl (hstaging i r (hrecord hr).1 hr.2.2)).trans
        (h.proposer.claims c fun i r hi hc => .inl (hstaging i r hi hc))
    refine ⟨fun hlt => ?_, fun hle => ?_⟩
    · obtain ⟨hv, hv'⟩ := hquiet fun w' hw' => by
        rw [hchan, hw] at hw'
        exact Option.some.inj hw' ▸ hlt
      exact ⟨hv.trans hchan, hv'.trans hclaim⟩
    · obtain ⟨hdone, hraised, hreleased⟩ := h.swaps.done c hmem w (by rw [hchan]; exact hw) (by rw [hunow]; exact hle)
      refine ⟨hdone.trans (by rw [hchan]), hreleased.trans ?_, hraised⟩
      rw [hclaim, if_pos (claim_of_swap hclaims hw)]
  case armed =>
    have hst : r.state ≠ .staging := by rw [harmed]; decide
    have hany : r.items.any (onChannel c) = true :=
      List.any_eq_true.mpr ⟨it, List.mem_of_find?_eq_some hit, List.find?_some hit⟩
    have hclaim : t.part.claims[c] = some r.set := by
      rw [h.proposer.claims c fun j q hj hc => ?_, (claim_of_record hclaims hi hst hany).1]
      by_cases hne : j = i
      · subst hne
        obtain rfl := Option.some.inj (hj.symm.trans hi)
        exact .inr fun hgoes => hgoes.2.1 harmed
      · exact .inl (staging_of_other hclaims hi hst hany hj hc hne)
    have happlied := h.records.applied c i r e it (h.all i) (h.record.mpr ⟨hi, fun hgoes => hgoes.2.1 harmed⟩) harmed he
      (h.now.symm ▸ hle) hit hclaim (by rw [hchans]; exact hnone) fun j q hq hne =>
        staging_of_other hclaims hi hst hany (hrecord hq).1 hq.2.2 hne
    rw [h.now, hchans] at happlied
    obtain ⟨hinstalled, hwaits⟩ := happlied
    intro b
    refine ⟨fun hb => ?_, fun hb => ?_⟩
    · obtain ⟨hchan, hfree⟩ := hinstalled hb
      obtain ⟨hv, hv'⟩ := hquiet fun w hw => by
        rw [hchan] at hw
        exact absurd (hnone.symm.trans hw) (Option.some_ne_none w).symm
      exact ⟨hv.trans hchan, hv'.trans hfree⟩
    · obtain ⟨hchan, hheld⟩ := hwaits hb
      obtain ⟨hv, hv'⟩ := hquiet fun w hw => by
        rw [hchan] at hw
        rw [← Option.some.inj hw]
        exact hb
      exact ⟨hv.trans hchan, hv'.trans hheld⟩
  case kept =>
    have hchan : u.chans[c] = s.chans[c] := by
      rw [h.records.chans c fun i r hr => h.now.symm ▸ hno i r (hrecord hr).1 hr.2.2, hchans]
    exact (hquiet fun w hw => by rw [hchan, hnone] at hw; cases hw).1.trans hchan
  case freed =>
    have hst : r.state ≠ .staging := undecided_ne_staging hund
    have harmed : r.state ≠ .armed := fun ha => by simp [ha] at hund
    have hclaim := (claim_of_record hclaims hi hst hc).1
    have hchan : u.chans[c] = s.chans[c] := by
      rw [h.records.chans c fun j q hq => .inl ?_, hchans]
      by_cases hne : j = i
      · subst hne
        rwa [Option.some.inj ((hrecord hq).1.symm.trans hi)]
      · rw [staging_of_other hclaims hi hst hc (hrecord hq).1 hq.2.2 hne]
        decide
    have hfreed : u.part.claims[c] = none := by
      by_cases hgoes : goesWithProposal s.time.now s r
      · have hnone' := h.proposer.freed c i r hi hgoes hst hc hclaim
        exact (h.records.claim c).elim id (·.trans hnone')
      · have hsame : t.part.claims[c] = some r.set := by
          rw [h.proposer.claims c fun j q hj hcq => ?_, hclaim]
          by_cases hne : j = i
          · subst hne
            obtain rfl := Option.some.inj (hj.symm.trans hi)
            exact .inr hgoes
          · exact .inl (staging_of_other hclaims hi hst hc hj hcq hne)
        exact h.records.freed c i r ⟨h.all i, h.record.mpr ⟨hi, hgoes⟩, hc⟩ hund
          (h.now.symm ▸ hgone.resolve_right hgoes) hsame
    exact (hquiet fun w hw => by rw [hchan, hnone] at hw; cases hw).2.trans hfreed
  case claims =>
    have hchan : u.chans[c] = s.chans[c] := by
      rw [h.records.chans c fun i r hr => ?_, hchans]
      exact (hno i r (hrecord hr).1 hr.2.2).imp (fun hst => by rw [hst]; decide) fun hm => h.now.symm ▸ hm.1
    have hclaim : u.part.claims[c] = s.part.claims[c] := by
      rw [h.records.claims c fun i r hr => (hno i r (hrecord hr).1 hr.2.2).imp_right fun hm => h.now.symm ▸ hm.1,
        h.proposer.claims c fun i r hi hc => (hno i r hi hc).imp_right (·.2)]
    exact (hquiet fun w hw => by rw [hchan, hnone] at hw; cases hw).2.trans hclaim

end

end Sys2Proof.Machine


/-! PROOFS. A step of network time: the proposal, the transmit queue and the line (R37, R62, R67 to R69, R86, R87). -/

namespace Sys2Proof.Machine

/-! ### The queue and the line at the proposal's epoch -/

section
variable {s x : State}

theorem ProposalMet.filter (h : ProposalMet s x) {keep : Frame → Bool} (hkeep : ∀ f, keep f = true → isProposalFrame f = false) :
    x.line.queue.filter keep = s.line.queue.filter keep := by
  cases h with
  | stays h => rfl
  | aborts p hp hend hphase =>
    change (queueOffered _ _).filter keep = _
    rw [filter_queueOffered (Bool.eq_false_iff.mpr fun h => Bool.noConfusion (hkeep _ h)), filter_eraseP hkeep]
  | closes p reason hp hend hphase =>
    change (lineRecalled s).queue.filter keep = _
    rw [lineRecalled_queue, filter_eraseP hkeep]

theorem ProposalMet.outstanding (h : ProposalMet s x)
    (hout : ∀ out, outstandingFrame s = some out → isProposalFrame out.frame = true) :
    ∀ out, outstandingFrame x = some out → isProposalFrame out.frame = true := by
  cases h with
  | stays h => exact hout
  | aborts p hp hend hphase =>
    intro out ho
    obtain rfl := Option.some.inj ho
    rfl
  | closes p reason hp hend hphase => nofun

theorem ProposalMet.sequence (h : ProposalMet s x) : x.prop.sequence = s.prop.sequence := by
  cases h with
  | stays | aborts | closes => rfl

theorem ProposalMet.line (h : ProposalMet s x) (hidle : s.line.attempt = none) :
    lineBystanders s x ∧ x.line.attempt = none ∧ x.line.driveUntil = s.line.driveUntil := by
  obtain ⟨hrest, hstays, -⟩ := lineAfter_recalled s
  obtain ⟨hatt, hdrive⟩ := hstays fun a ha => by rw [hidle] at ha; cases ha
  cases h with
  | stays h => exact ⟨⟨rfl, rfl, rfl, rfl, rfl, rfl, rfl, rfl⟩, hidle, rfl⟩
  | aborts p hp hend hphase => exact ⟨hrest, hatt.trans hidle, hdrive⟩
  | closes p reason hp hend hphase => exact ⟨hrest, hatt.trans hidle, hdrive⟩

end

/-- Withdrawals leave the sequence of the Proposer Unit. -/
theorem WithdrawnTo.sequence {ws : List (Frame → Bool)} {s t : State} (h : WithdrawnTo ws s t) :
    t.prop.sequence = s.prop.sequence := by
  rcases h.outcome with h | ⟨p, f, h⟩ <;> rw [h.prop]

/-! ### What the step withdraws (R37, R43, R87) -/

/-- The kinds of frames that a step withdraws: SYNCs and INQUIREs. -/
def StepKinds (ws : List (Frame → Bool)) : Prop := ∀ w ∈ ws, w = isSync ∨ ∃ set, w = isInquireFor set

theorem StepKinds.proposal {ws : List (Frame → Bool)} (h : StepKinds ws) (f : Frame) (hf : isProposalFrame f = true) :
    namedBy ws f = false := by
  by_contra hne
  obtain ⟨w, hw, hn⟩ := List.any_eq_true.mp (Bool.of_not_eq_false hne)
  have hno : namedBy [w] f = false := by
    rcases h w hw with rfl | ⟨set, rfl⟩
    · exact namedBy_sync_of_proposal f hf
    · exact namedBy_inquire_of_proposal set f hf
  rw [namedBy_singleton, hn] at hno
  cases hno

/-- The proposal's own change and then withdrawals of other owners' frames, which are those of the step. -/
structure StepWithdraws (now : NetTime) (ws : List (Frame → Bool)) (s x w : State) : Prop where
  met : ProposalMet s x
  kinds : StepKinds ws
  withdrawn : WithdrawnTo ws x w
  named : ∀ f, namedBy ws f = true ↔ withdrawnByStep now s f

section
variable {ws : List (Frame → Bool)} {s x w : State}

theorem StepWithdraws.queueMeets (h : StepWithdraws s.time.now ws s x w) : queueMeets s.time.now s w := by
  intro hsync hinq hout
  have honce : OncePerKind ws x := fun k hk => by
    have hno : ∀ f, k f = true → isProposalFrame f = false := fun f hf => Bool.eq_false_iff.mpr fun hp => by
      have := h.kinds.proposal f hp
      rw [show namedBy ws f = true from List.any_eq_true.mpr ⟨k, hk, hf⟩] at this
      cases this
    rw [List.countP_eq_length_filter, h.met.filter hno, ← List.countP_eq_length_filter]
    rcases h.kinds k hk with rfl | ⟨set, rfl⟩
    · exact hsync
    · exact hinq set
  have houtx := h.met.outstanding hout
  have hall := withdraws_withdrawEach h.kinds.proposal honce houtx h.named h.withdrawn.outcome
  refine ⟨hall.1, fun keep hkeep => ?_, fun hno => ?_⟩
  · have hnot : ∀ f, keep f = true → isProposalFrame f = false := fun f hf =>
      Bool.eq_false_iff.mpr fun hp => hkeep f hf (.inr hp)
    rw [← h.met.filter hnot]
    exact h.withdrawn.keeps houtx fun f hf => ⟨hnot f hf, Bool.eq_false_iff.mpr fun hn => hkeep f hf (.inl ((h.named f).mp hn))⟩
  · cases h.met with
    | stays => exact hall
    | aborts p hp hend => exact absurd hend (hno p hp)
    | closes p reason hp hend => exact absurd hend (hno p hp)

/-- An ABORT that a full queue has not taken finds the place of a frame that is withdrawn (R62, R115). -/
theorem abort_placed {p : Proposal} (hws : ∀ f, isProposalFrame f = true → namedBy ws f = false)
    (hw : WithdrawnTo ws (abortOffered p .late s) w) {others : List Frame}
    (hothers : s.line.queue.eraseP isProposalFrame = others) (hfull : ¬ others.length < 12) (hle : others.length ≤ 12)
    {f : Frame} (hf : f ∈ s.line.queue) (hn : namedBy ws f = true) : abortFrame s p.set .late ∈ w.line.queue := by
  subst hothers
  have hqueue : (abortOffered p .late s).line.queue = s.line.queue.eraseP isProposalFrame := if_neg hfull
  have hnot : ¬ isProposalFrame f = true := fun hp => by
    rw [hws f hp] at hn
    cases hn
  have hwaits : waitsForRoom (abortOffered p .late s) (abortFrame s p.set .late) :=
    waitsForRoom_iff.mpr ⟨_, rfl, by rw [decide_eq_false hfull]⟩
  rcases hw.outcome with h | ⟨q, g, h⟩
  · have hlong := h.full ⟨f, by rw [hqueue]; exact (List.mem_eraseP_of_neg hnot).mpr hf, hn⟩ _ hwaits
    rw [hqueue] at hlong
    omega
  · obtain ⟨q', hq', ho⟩ := waitsForRoom_iff.mp hwaits
    obtain rfl := Activity.active.inj (h.active.symm.trans hq')
    obtain rfl : g = abortFrame s p.set .late := by simpa using h.waits.symm.trans ho
    rw [← List.count_pos_iff, h.count (hws _ (isProposalFrame_abort s p.set .late))]
    exact Nat.succ_pos _

theorem StepWithdraws.proposalMeets (h : StepWithdraws s.time.now ws s x w)
    (houtcome : isPending .outcome x = true → isPending .outcome w = true) : proposalMeets s.time.now s w := by
  obtain ⟨hmet, hkinds, hw, hnamed⟩ := h
  have hws := hkinds.proposal
  refine ⟨fun hno => ?_, fun p hp => ⟨fun hend hphase => ?_, fun reason hend hphase => ?_⟩⟩
  · cases hmet with
    | stays => exact proposerStays_withdrawEach hws hw.outcome
    | aborts p hp hend => exact absurd hend (hno p hp)
    | closes p reason hp hend => exact absurd hend (hno p hp)
  · intro abort others
    cases hmet with
    | stays hno => exact absurd ⟨p, hp, hend⟩ hno
    | closes q reason hq _ hphase' =>
      obtain rfl := Activity.active.inj (hp.symm.trans hq)
      rcases hphase with hphase | hphase <;> simp [hphase] at hphase'
    | aborts q hq _ _ =>
      obtain rfl := Activity.active.inj (hp.symm.trans hq)
      have habort : isProposalFrame abort = true := rfl
      obtain ⟨queued, hprop, hstays, hexact⟩ := hw.outstanding hws
        (q := { p with phase := .aborting, abortReason := some .late }) rfl habort
      refine ⟨queued, hprop, fun honce => ?_⟩
      obtain ⟨hmem, honly⟩ := mem_abortOffered honce habort
      obtain ⟨hmem', honly'⟩ := hexact (decide_eq_true_iff.trans hmem) honly
      have hothers : s.line.queue.eraseP isProposalFrame = others := eraseP_eq_filter honce
      refine ⟨hmem', honly', fun hroom => ?_⟩
      by_cases hlen : others.length < 12
      · exact hmem'.mp (hstays (decide_eq_true (by rw [hothers]; exact hlen)))
      · obtain ⟨hle, f, hf, hgone⟩ := hroom.resolve_left hlen
        exact abort_placed hws hw hothers hlen hle hf ((hnamed f).mpr hgone)
  · cases hmet with
    | stays hno => exact absurd ⟨p, hp, hend⟩ hno
    | aborts q hq _ hphase' =>
      obtain rfl := Activity.active.inj (hp.symm.trans hq)
      rcases hphase' with hphase' | hphase' <;> simp [hphase'] at hphase
    | closes q reason' hq _ hphase' =>
      obtain rfl := Activity.active.inj (hp.symm.trans hq)
      have hreason : reason' = reason := by
        rcases hphase with ⟨hc, rfl⟩ | ⟨ha, hr⟩
        · rcases hphase' with ⟨-, rfl⟩ | ⟨ha, -⟩
          · rfl
          · rw [hc] at ha; cases ha
        · rcases hphase' with ⟨hc, -⟩ | ⟨-, rfl⟩
          · rw [ha] at hc; cases hc
          · simp [storedReason, hr]
      subst hreason
      have hclosed := hw.closed fun q hq => by cases hq
      refine ⟨?_, houtcome (isPending_raise_self (by decide) _), fun honce => List.any_eq_false.mpr fun f hf => ?_⟩
      · rw [hclosed.prop]
        exact congrArg (fun log => { s.prop with activity := .idle, log := log }) (addLog_eq _ _)
      · have hmem : f ∈ (lineRecalled s).queue := hclosed.sublist.subset hf
        rw [lineRecalled_queue, eraseP_eq_filter honce] at hmem
        simpa using (List.mem_filter.mp hmem).2

end

end Sys2Proof.Machine


/-! PROOFS. A SYNC whose step carries network time past epochs and boundaries (R45, R83 to R87). -/

namespace Sys2Proof.Machine

theorem bystanders_trans {s t u : State} (h : bystanders s t) (h' : bystanders t u) : bystanders s u := by
  obtain ⟨hctl, hcapt, hport, hpending, henable⟩ := h
  obtain ⟨hctl', hcapt', hport', hpending', henable'⟩ := h'
  exact ⟨hctl'.trans hctl, hcapt'.trans hcapt, hport'.trans hport, hpending'.trans hpending, henable'.trans henable⟩

/-! ### The end of a SYNC: timers, the own SYNC, the lock state (R86, R87) -/

/-- What the end of a SYNC leaves when the lock state does not turn a block. -/
structure SyncEnds (l : LockState) (v w : State) : Prop where
  time : w.time = { v.time with supervision := some 0, syncTimer := some 0, selfSource := none, ownSync := false, lock := l }
  part : w.part = v.part
  chans : w.chans = v.chans
  memb : w.memb = v.memb
  beside : bystanders v w
  raises : raisesOnly [.lock] v w
  lock : l ≠ v.time.lock → isPending .lock w = true
  withdrawn : ∃ ws, StepKinds ws ∧ WithdrawnTo ws v w ∧
    ∀ f, namedBy ws f = true ↔ v.time.ownSync = true ∧ isSync f = true

theorem withdrawSync_each (v : State) : ∃ ws, StepKinds ws ∧
    (∀ f, namedBy ws f = true ↔ v.time.ownSync = true ∧ isSync f = true) ∧
    withdrawSync v = (withdrawEach ws v).setTime { v.time with ownSync := false } := by
  cases hown : v.time.ownSync with
  | true =>
    refine ⟨[isSync], fun w hw => .inl (List.mem_singleton.mp hw), fun f => ?_, ?_⟩
    · rw [namedBy_singleton, and_iff_right rfl]
    · rw [withdrawSync, if_pos hown]
      exact (apart_setTime _).withdrawFrame isSync v
  | false =>
    refine ⟨[], nofun, fun f => iff_of_false Bool.false_ne_true fun h => Bool.false_ne_true h.1, ?_⟩
    rw [withdrawSync, if_neg (by rw [hown]; decide), ← hown]
    rfl

theorem syncEnds {l : LockState} {v : State} (hun : l ≠ .unlocked) (hfrom : v.time.lock = .locked → l = .locked)
    (hjoin : l = .locked → v.ctl.state ≠ .joining) : SyncEnds l v (setLock l (withdrawSync (restartSyncTimers v))) := by
  obtain ⟨ws, hkinds, hnamed, heq⟩ := withdrawSync_each (restartSyncTimers v)
  have hapart : withdrawEach ws (restartSyncTimers v) = (withdrawEach ws v).setTime (restartSyncTimers v).time :=
    (apart_setTime _).withdrawEach ws v
  have hw : WithdrawnTo ws v (withdrawEach ws v) := ⟨rfl, rfl, withdrawEach_clock ws v, withdrawEach_ctl ws v⟩
  have hframe := withdrawEach_frame ws v
  obtain ⟨line, prop, hlp⟩ : ∃ line prop, withdrawEach ws v = (v.setLine line).setProp prop := ⟨_, _, hframe⟩
  have hquiet := setLock_quiet (s := ((((v.setLine line).setProp prop).setTime (restartSyncTimers v).time).setTime
    { (restartSyncTimers v).time with ownSync := false })) hun hfrom hjoin
  rw [heq, hapart, hlp]
  refine hquiet ▸ ?_
  rw [hlp] at hw
  split
  next hl =>
    refine ⟨?_, rfl, rfl, rfl, ⟨rfl, rfl, rfl, rfl, rfl⟩, fun _ _ => rfl, fun h => absurd hl h, ws, hkinds,
      hw.congr rfl rfl rfl rfl, hnamed⟩
    rw [hl]
    rfl
  next hl =>
    exact ⟨rfl, rfl, rfl, rfl, ⟨rfl, rfl, rfl, rfl, rfl⟩, raisesOnly_raise rfl rfl, fun _ => isPending_raise_self (by decide) _,
      ws, hkinds, hw.congr rfl rfl rfl rfl, hnamed⟩

/-! ### The whole step -/

/-- The state in which a step has moved network time by `o` (R85). -/
def steppedBy (o : Int) (src : Station) (s : State) : State :=
  raise .step ((delivered src s).setTime
    { s.time with now := s.time.now + BitVec.ofInt 48 o, slew := none, lastStep := some o })

theorem meetingOrder_positions (s : State) : (meetingOrder s).Nodup ∧ ∀ i, i ∈ meetingOrder s := by
  unfold meetingOrder
  split
  · exact ⟨List.nodup_finRange 4, mem_positions⟩
  · refine ⟨(List.nodup_finRange 4).map (Equiv.injective _), fun i => ?_⟩
    obtain ⟨j, hj⟩ := (Config.recordOrder s.clock.choices).surjective i
    exact List.mem_map.mpr ⟨j, mem_positions j, hj⟩

/-- A step meets the proposal, the records and the swaps, at an instant of its own count of free choices. -/
theorem meetStep_pass {s : State} (hids : IdsApart s) : ∃ c t u, StepPass (meetingOrder s) (s.setClock c) t u (meetStep s) := by
  obtain ⟨c, hc⟩ : ∃ c, (if positions.countP (expiryDue s) ≤ 1 then s else countChoice s) = s.setClock c := by
    split
    · exact ⟨s.clock, rfl⟩
    · exact ⟨_, rfl⟩
  obtain ⟨hnodup, hall⟩ := meetingOrder_positions s
  refine ⟨c, meetProposerEpoch (s.setClock c), (meetingOrder s).foldl (fun t i => meetRecord i t) (meetProposerEpoch (s.setClock c)),
    proposerPass_meetProposerEpoch (s := s.setClock c) hids, recordsPass_positions hnodup _, ?_, hnodup, hall⟩
  have hstep : meetStep s = meetSwaps ((meetingOrder s).foldl (fun t i => meetRecord i t) (meetProposerEpoch (s.setClock c))) := by
    rw [← hc]
    rfl
  rw [hstep]
  exact swapsPass_channels (List.nodup_finRange 16) _

theorem takeSync_steps {s : State} {src : Station} {time sample : NetTime} {o : Int}
    (ho : o = sdiff (time + BitVec.ofNat 48 s.time.trim.val) sample) (hfar : o < -20 ∨ 20 < o) :
    takeSync time sample (delivered src s) =
      setLock (lockTable s.time.lock false) (withdrawSync (restartSyncTimers (meetStep (steppedBy o src s)))) := by
  have hstep : withinSlew o = false := by
    rw [← Bool.not_eq_true]
    rw [withinSlew_iff]
    rintro ⟨hlow, hhigh⟩
    exact hfar.elim (fun h => absurd hlow (Int.not_le.mpr h)) fun h => absurd hhigh (Int.not_le.mpr h)
  change setLock (lockAfterSync s.time.lock (withinSlew (sdiff (time + BitVec.ofNat 48 s.time.trim.val) sample)))
    (withdrawSync (restartSyncTimers (correctTime (sdiff (time + BitVec.ofNat 48 s.time.trim.val) sample) (delivered src s)))) = _
  rw [← ho, hstep, lockAfterSync_eq, correctTime, if_neg (by rw [hstep]; decide)]
  rfl

section
variable {l : List (Fin 4)} {lock : LockState} {s t u v w : State}

theorem StepPass.time (h : StepPass l s t u v) : v.time = s.time := by
  obtain ⟨chans, claims, notes, hframe, -⟩ := h.swaps.frame
  rw [hframe]
  exact h.records.time.trans h.proposer.stays.time

/-- Every frame that leaves the queue by a SYNC's step, the proposal's own apart, is one that the step withdraws. -/
theorem StepPass.withdraws (h : StepPass l s t u v) (hend : SyncEnds lock v w) : ∃ ws x, StepWithdraws s.time.now ws s x w ∧
    (isPending .outcome x = true → isPending .outcome w = true) := by
  obtain ⟨x, ws, hmet, houtcome, hws, hw, hnamed⟩ := h.proposer.line
  obtain ⟨vs, hvs, hv, hnamed'⟩ := h.records.withdrawn
  obtain ⟨ks, hks, hk, hnamed''⟩ := hend.withdrawn
  obtain ⟨chans, claims, notes, hframe, -⟩ := h.swaps.frame
  have huv : WithdrawnTo vs t v := hv.congr (by rw [hframe]; rfl) (by rw [hframe]; rfl) (by rw [hframe]; rfl) (by rw [hframe]; rfl)
  refine ⟨ws ++ vs ++ ks, x, ⟨hmet, fun k hkm => ?_, (hw.trans huv).trans hk, fun f => ?_⟩, fun hx => ?_⟩
  · rcases List.mem_append.mp hkm with hkm | hkm
    · exact .inr ((hws.append hvs) k hkm)
    · exact hks k hkm
  · rw [namedBy_append, namedBy_append, Bool.or_eq_true, Bool.or_eq_true, hnamed, hnamed', hnamed'', h.now, h.time]
    constructor
    · rintro ((⟨i, r, hi, hgoes, hf⟩ | ⟨i, -, r, hi, harmed, hmet, hf⟩) | hsync)
      · exact .inr ⟨i, r, hi, hgoes.2.1, .inr hgoes, hf⟩
      · exact .inr ⟨i, r, (h.record.mp hi).1, harmed, .inl hmet, hf⟩
      · exact .inl hsync
    · rintro (hsync | ⟨i, r, hi, harmed, hgone, hf⟩)
      · exact .inr hsync
      · by_cases hgoes : goesWithProposal s.time.now s r
        · exact .inl (.inl ⟨i, r, hi, hgoes, hf⟩)
        · exact .inl (.inr ⟨i, h.all i, r, h.record.mpr ⟨hi, hgoes⟩, harmed, hgone.resolve_right hgoes, hf⟩)
  · rw [hend.raises .outcome (by decide)]
    exact h.pending (houtcome.trans hx)

/-- What the step leaves of the blocks that it does not meet, and the notices that it may raise. -/
theorem StepPass.aside (h : StepPass l s t u v) : bystanders s v ∧ v.memb = s.memb ∧
    raisesOnly [.setApplied, .setDropped, .outcome] s v := by
  obtain ⟨chans, claims, notes, hframe, henable⟩ := h.swaps.frame
  have hswaps : bystanders u v := by
    rw [hframe]
    exact ⟨rfl, rfl, rfl, rfl, henable⟩
  refine ⟨bystanders_trans (bystanders_trans h.proposer.stays.beside h.records.beside) hswaps, ?_,
    raisesOnly_trans (raisesOnly_mono h.proposer.raises (by simp)) (raisesOnly_trans (raisesOnly_mono h.records.raises (by simp))
      (raisesOnly_mono h.swaps.raises (by simp)))⟩
  rw [hframe]
  exact h.records.memb.trans h.proposer.stays.memb

end

/-- The records met are met in every later state that keeps the Participant Unit and those notices. -/
theorem recordsMeet_congr {now : NetTime} {s v w : State} (h : recordsMeet now s v) (hpart : w.part = v.part)
    (hpend : ∀ n, n = .setApplied ∨ n = .setDropped → isPending n w = isPending n v) : recordsMeet now s w := by
  unfold recordsMeet at h ⊢
  rw [hpart, hpend .setApplied (.inl rfl), hpend .setDropped (.inr rfl)]
  exact h

theorem channelsMeet_congr {now : NetTime} {s v w : State} (h : channelsMeet now s v) (hpart : w.part = v.part)
    (hchans : w.chans = v.chans) (hpend : isPending .setApplied w = isPending .setApplied v) : channelsMeet now s w := by
  unfold channelsMeet at h ⊢
  rw [hpart, hchans, hpend]
  exact h

theorem steppedBy_raises (o : Int) (src : Station) (s : State) (c : Clock) :
    raisesOnly [.step, .member] s ((steppedBy o src s).setClock c) ∧ isPending .step ((steppedBy o src s).setClock c) = true :=
  ⟨raisesOnly_trans (raisesOnly_mono (raisesOnly_delivered src s) (by simp))
    (raisesOnly_mono (raisesOnly_raise (n := .step) rfl rfl) (by simp)), isPending_raised (n := .step) (by decide)
      (s := (delivered src s).setTime
        { s.time with now := s.time.now + BitVec.ofInt 48 o, slew := none, lastStep := some o }) rfl rfl⟩

/-- Settles O25: the proposal, then the records, then the swaps, and the end of the SYNC. -/
theorem stepMeetsWhatItPasses : Obligations.StepMeetsWhatItPasses := by
  intro s src time sample hclaims hstore hm hsample o now hfar
  have hexec := exec_sync (.inl hm.1) hm.2.1 hm.2.2 hsample time
  rw [takeSync_steps rfl hfar] at hexec
  have hids : IdsApart (steppedBy o src s) := idsApart_of_storeSound hstore
  obtain ⟨c, t, u, hpass⟩ := meetStep_pass hids
  obtain ⟨hraises, hstepped⟩ := steppedBy_raises o src s c
  have hjoining : s.ctl.state ≠ .joining := by rw [hm.1]; decide
  have hdoubt : ∀ (i : Fin 4) (r : SetRecord), s.part.table[i] = some r → r.self = true → r.state ≠ .inDoubt := by
    intro i r hi hself
    have hpos := hstore.1 i
    rw [hi] at hpos
    obtain ⟨⟨-, -, -, -, -, -, hown⟩, -⟩ := hpos
    exact (hown hself).2.2
  generalize meetStep (steppedBy o src s) = v at *
  generalize meetingOrder (steppedBy o src s) = order at *
  obtain ⟨hbeside, hmemb, hraisesPass⟩ := hpass.aside
  have htime := hpass.time
  have hend : SyncEnds (lockTable s.time.lock false) v
      (setLock (lockTable s.time.lock false) (withdrawSync (restartSyncTimers v))) := by
    refine syncEnds (lockTable_ne_unlocked _ _) (fun hl => ?_) fun _ => ?_
    · rw [htime] at hl
      have hl : s.time.lock = .locked := hl
      rw [hl]
      rfl
    · rw [hbeside.1]
      exact hjoining
  generalize setLock (lockTable s.time.lock false) (withdrawSync (restartSyncTimers v)) = w at *
  obtain ⟨ws, x, hwithdraws, houtcome⟩ := hpass.withdraws hend
  obtain ⟨hrest, hatt, hdrive⟩ := hwithdraws.met.line hm.2.1.1
  obtain ⟨hatt', hdrive'⟩ := hwithdraws.withdrawn.attempt_idle hatt
  have hlines := lineBystanders_trans hrest hwithdraws.withdrawn.lineAfter.rest
  have hpending : isPending .step v = true := (hraisesPass .step (by decide)).trans hstepped
  refine ⟨w, hexec, ?time, ?step, fun hne => hend.lock ?changed, ?raises, ?beside, ?sequence, hlines.2.2.2.2.2.2.2, ?memb,
    ?records, ?channels, hwithdraws.proposalMeets houtcome, hwithdraws.queueMeets, hlines,
    fun _ => ⟨(hatt'.trans hatt).trans hm.2.1.1.symm, hdrive'.trans hdrive⟩⟩
  case time => rw [hend.time, htime]; rfl
  case step => exact (hend.raises .step (by decide)).trans hpending
  case changed => rw [htime]; exact hne
  case raises =>
    exact raisesOnly_trans (raisesOnly_mono hraises (by simp)) (raisesOnly_trans (raisesOnly_mono hraisesPass (by simp))
      (raisesOnly_mono hend.raises (by simp)))
  case beside =>
    exact bystanders_of_delivered (src := src) (bystanders_trans (s := delivered src s) hbeside hend.beside)
  case sequence => exact hwithdraws.withdrawn.sequence.trans hwithdraws.met.sequence
  case memb => exact hend.memb.trans hmemb
  case records =>
    exact recordsMeet_congr (hpass.recordsMeet hids hdoubt) hend.part
      fun n hn => hend.raises n (by rcases hn with rfl | rfl <;> decide)
  case channels =>
    exact channelsMeet_congr (hpass.channelsMeet hclaims) hend.part hend.chans (hend.raises .setApplied (by decide))

end Sys2Proof.Machine
